-- ==== Sys2Proof/Word.lean ====
section
/-! DEFINITION. The widths of the spec's values (00_scope R9): a byte is 8 bits, a word 16, a count is a 16-bit
signed integer, a temperature is an f32 carried as its 32-bit pattern. -/

namespace Sys2Proof

/-- A byte of a frame (00_scope R9). -/
abbrev Byte := BitVec 8

/-- A 16-bit word of a frame: `W`, `W0` or `W1` (00_scope R9, 20_memory R32, R33). -/
abbrev Word16 := BitVec 16

/-- A SignedCount: 16 bits, two's complement (10_state R26). -/
abbrev Count := BitVec 16

/-- A temperature: the bit pattern of an f32, bit 31 the sign (41_unit_converter R98). -/
abbrev Temp := BitVec 32

end Sys2Proof
end

