-- ==== Sys2Proof/Config.lean ====
section
/-! DEFINITION. What is fixed when the block is built (00_scope R6) and the free values: constants with no body, of
which nothing can be proved but that each depends on its arguments alone. -/

namespace Sys2Proof

/-- Parameter CFLAG_SEL (00_scope R6, 40_frame_decoder R74): which bit is the 32-bit composite fault flag. -/
inductive CflagSel where
  /-- Second word bit 0: the default, the position DOC0 states. -/
  | w1Bit0
  /-- First word bit 0: the alternative (92_eei_decisions D8). -/
  | w0Bit0
  deriving DecidableEq, Repr

/-- Parameter NUMERICS (00_scope R6, 41_unit_converter R99): which float record the block is built with. -/
inductive NumericsSel where
  /-- The default record: IEEE 754 binary32, round to nearest even, no fused multiply-add. -/
  | binary32
  /-- Any other build, left uninterpreted: its functions and constants are the opaque constants below, applied to
  `build`; `fused` says whether its multiply-add is one function of three operands or the two roundings of R95. -/
  | other (build : Nat) (fused : Bool)
  deriving DecidableEq, Repr

/-- The OPEN parameters of the block (00_scope R6). -/
structure Config where
  cflagSel : CflagSel
  numerics : NumericsSel
  deriving DecidableEq, Repr

namespace Config

/-- The spec's default of every OPEN parameter (00_scope R6). -/
def default : Config := { cflagSel := .w1Bit0, numerics := .binary32 }

/-! The fixed parameters of 00_scope R6. -/

/-- `FRAME16_BYTES`. -/
def frame16Bytes : Nat := 2
/-- `FRAME32_BYTES`. -/
def frame32Bytes : Nat := 4
/-- `TC_LEN`: the thermocouple field's width, sign included. -/
def tcLen : Nat := 14
/-- `TC_SHIFT`. -/
def tcShift : Nat := 2
/-- `TC_DIV`. -/
def tcDiv : Nat := 4
/-- `INT_LEN`: the internal field's width, sign included. -/
def intLen : Nat := 12
/-- `INT_SHIFT`. -/
def intShift : Nat := 4
/-- `INT_DIV`. -/
def intDiv : Nat := 16
/-- `SCALE_TC`, 0.25 as an f32 (41_unit_converter R100). -/
def scaleTc : Temp := 0x3E800000#32
/-- `SCALE_INT`, 0.0625 as an f32 (41_unit_converter R100). -/
def scaleInt : Temp := 0x3D800000#32
/-- `F_MUL`, the f32 nearest to 1.8, in the default record (41_unit_converter R99). -/
def fMul : Temp := 0x3FE66666#32
/-- `F_ADD`, 32.0, in the default record (41_unit_converter R99). -/
def fAdd : Temp := 0x42000000#32
/-- `K_ADD`, the f32 nearest to 273.15, in the default record (41_unit_converter R99). -/
def kAdd : Temp := 0x43889333#32

/-! Free values. -/

/-- The value of FRAME byte `offset` at the `draw`-th operation when no frame byte drives it (20_memory R35,
70_reset R177: 'whatever FRAME[15:0] holds'; log 8). -/
opaque undrivenByte (draw offset : Nat) : Byte

/-! What the `draw`-th read of an output port gives when VALID is 1 and the port holds no value: 'a fresh unconstrained
draw at every read' (10_state R20, 93 U14; log 6). -/

/-- STATUS. -/
opaque unheldStatus (draw : Nat) : BitVec 3
/-- TC_COUNT. -/
opaque unheldTcCount (draw : Nat) : Count
/-- INT_COUNT. -/
opaque unheldIntCount (draw : Nat) : Count
/-- TC_TEMP. -/
opaque unheldTcTemp (draw : Nat) : Temp
/-- INT_TEMP. -/
opaque unheldIntTemp (draw : Nat) : Temp
/-- UNIT_TAG. -/
opaque unheldUnitTag (draw : Nat) : BitVec 2

/-- Sign and payload of the NaN the default arithmetic returns for two operands (41_unit_converter R102 leaves NaN
propagation unstated; log 3). -/
opaque nanBits (a b : Temp) : Temp

/-- `i16_to_f32` of another build (41_unit_converter R99; log 2). -/
opaque otherI16ToF32 (build : Nat) (c : Count) : Temp
/-- `fmul32` of another build. -/
opaque otherFmul32 (build : Nat) (a b : Temp) : Temp
/-- `fadd32` of another build. -/
opaque otherFadd32 (build : Nat) (a b : Temp) : Temp
/-- The fused multiply-add of another build. -/
opaque otherFma32 (build : Nat) (a b c : Temp) : Temp
/-- The constant 1.8 of another build. -/
opaque otherFMul (build : Nat) : Temp
/-- The constant 32 of another build. -/
opaque otherFAdd (build : Nat) : Temp
/-- The constant 273.15 of another build. -/
opaque otherKAdd (build : Nat) : Temp

end Config
end Sys2Proof
end

