-- ==== Sys2Proof/Syntax.lean ====
section
/-! DEFINITION. The rows of spec/opcode_table.json, one constructor each: eight block operations and the reserved
command words (format CMD, 30_encoding R54, R55), and the nine frame outcome rows (formats F16, F32 and F32_W0,
30_encoding R57, R58, R62). A field holds the row's own bits, so that no bit of an encoding is dropped. -/

namespace Sys2Proof

inductive Instr where
  /-- `TCRAW`, CMD `uu00` (43_block_operations R126); `unit` is CMD[3:2], ignored. -/
  | tcraw (unit : BitVec 2)
  /-- `TCCNV.C`, CMD `0010` (R127). -/
  | tccnvC
  /-- `TCCNV.F`, CMD `0110` (R128). -/
  | tccnvF
  /-- `TCCNV.K`, CMD `1010` (R129). -/
  | tccnvK
  /-- `ALLRAW`, CMD `uu01` (R130); `unit` is CMD[3:2], ignored. -/
  | allraw (unit : BitVec 2)
  /-- `ALLCNV.C`, CMD `0011` (R131). -/
  | allcnvC
  /-- `ALLCNV.F`, CMD `0111` (R132). -/
  | allcnvF
  /-- `ALLCNV.K`, CMD `1011` (R133). -/
  | allcnvK
  /-- The reserved words, CMD `111w` (R55); `wide` is CMD[0]. -/
  | reserved (wide : BitVec 1)
  /-- `F16.OK`, `W = t r 0` (R57): thermocouple field and the bit W[1]. -/
  | f16Ok (t : BitVec 14) (r : BitVec 1)
  /-- `F16.GENERIC_FAULT`, `W = x r 1` (R57). -/
  | f16GenericFault (x : BitVec 14) (r : BitVec 1)
  /-- `F32.OK`, `W0 = t r r`, `W1 = i r x x 0` (R58): `r0` is W0[1:0], `r1` is W1[3], `x` is W1[2:1]. -/
  | f32Ok (t : BitVec 14) (r0 : BitVec 2) (i : BitVec 12) (r1 : BitVec 1) (x : BitVec 2)
  /-- `F32.MISSING_TC`, `W0 = x r r`, `W1 = x r x x 1` (R58). -/
  | f32MissingTc (x0 : BitVec 14) (r0 : BitVec 2) (x1 : BitVec 12) (r1 : BitVec 1) (x2 : BitVec 2)
  /-- `F32_W0.OK`, `W0 = t r 0`, `W1 = i r x x x` (R62): `r0` is W0[1], `r1` is W1[3], `x` is W1[2:0]. -/
  | f32w0Ok (t : BitVec 14) (r0 : BitVec 1) (i : BitVec 12) (r1 : BitVec 1) (x : BitVec 3)
  /-- `F32_W0.MISSING_TC`, `W0 = x r 1`, `W1 = x r x x 1` (R62). -/
  | f32w0MissingTc (x0 : BitVec 14) (r0 : BitVec 1) (x1 : BitVec 12) (r1 : BitVec 1) (x2 : BitVec 2)
  /-- `F32_W0.GND_SHORT`, `W0 = x r 1`, `W1 = x r x 1 0` (R62). -/
  | f32w0GndShort (x0 : BitVec 14) (r0 : BitVec 1) (x1 : BitVec 12) (r1 : BitVec 1) (x2 : BitVec 1)
  /-- `F32_W0.VCC_SHORT`, `W0 = x r 1`, `W1 = x r 1 0 0` (R62). -/
  | f32w0VccShort (x0 : BitVec 14) (r0 : BitVec 1) (x1 : BitVec 12) (r1 : BitVec 1)
  /-- `F32_W0.GENERIC_FAULT`, `W0 = x r 1`, `W1 = x r 0 0 0` (R62). -/
  | f32w0GenericFault (x0 : BitVec 14) (r0 : BitVec 1) (x1 : BitVec 12) (r1 : BitVec 1)
  deriving DecidableEq, Repr

/-- What the bits are: a command word, a 2-byte frame or a 4-byte frame. Nothing inside the bytes says which: the
length is caller-selected (30_encoding R45). -/
inductive Format where
  | command
  | frame16
  | frame32
  deriving DecidableEq, Repr

end Sys2Proof
end

