-- ==== Sys2Proof/WellFormed.lean ====
section
/-! DEFINITION. Well-formed instructions. Every field's width is fixed by its type, so the one thing left to check is
that a 4-byte frame row belongs to the format the block is built with: F32 under CFLAG_SEL = W1_BIT0 (30_encoding
R58), F32_W0 under CFLAG_SEL = W0_BIT0 (R62). -/

namespace Sys2Proof

/-- The CFLAG_SEL value an instruction's format needs; none where the format is the same for both. -/
def Instr.needs : Instr → Option CflagSel
  | .tcraw _ | .tccnvC | .tccnvF | .tccnvK => none
  | .allraw _ | .allcnvC | .allcnvF | .allcnvK => none
  | .reserved _ => none
  | .f16Ok _ _ | .f16GenericFault _ _ => none
  | .f32Ok _ _ _ _ _ | .f32MissingTc _ _ _ _ _ => some .w1Bit0
  | .f32w0Ok _ _ _ _ _ | .f32w0MissingTc _ _ _ _ _ => some .w0Bit0
  | .f32w0GndShort _ _ _ _ _ | .f32w0VccShort _ _ _ _ | .f32w0GenericFault _ _ _ _ => some .w0Bit0

/-- The instruction is one a block built with `sel` can meet. -/
def WellFormed (sel : CflagSel) (i : Instr) : Bool :=
  match i.needs with
  | none => true
  | some needed => decide (needed = sel)

end Sys2Proof
end

