-- ==== Sys2Proof/Decode.lean ====
section
/-! DEFINITION. Decoding of command words and frames (30_encoding R46 to R58, R62), total on any bytes, and the
encoder written from the same tables. -/

namespace Sys2Proof

/-- What the decoder answers: an instruction, or a rejection by name. -/
inductive Decoded where
  | instr (i : Instr)
  /-- The byte count is not the format's: 1 for a command, 2 or 4 for a frame (20_memory R35). -/
  | wrongLength
  /-- A command byte with a bit set above CMD[3:0] (10_state R11: CMD has 4 bits; log 28). -/
  | commandTooWide
  deriving DecidableEq, Repr

/-- The command word (30_encoding R54, R55): WIDE = CMD[0], CONV = CMD[1], UNIT = CMD[3:2]. -/
def decodeCmd (cmd : BitVec 4) : Instr :=
  let unit := cmd.extractLsb' 2 2
  match cmd.getLsbD 1, cmd.getLsbD 0 with
  | false, false => .tcraw unit
  | false, true => .allraw unit
  | true, false =>
    if unit = 0#2 then .tccnvC else if unit = 1#2 then .tccnvF else if unit = 2#2 then .tccnvK else .reserved 0#1
  | true, true =>
    if unit = 0#2 then .allcnvC else if unit = 1#2 then .allcnvF else if unit = 2#2 then .allcnvK else .reserved 1#1

/-- A 2-byte frame's word (30_encoding R46, R57). -/
def decodeFrame16 (w : Word16) : Instr :=
  if w.getLsbD 0 then .f16GenericFault (w.extractLsb' 2 14) (w.extractLsb' 1 1)
  else .f16Ok (w.extractLsb' 2 14) (w.extractLsb' 1 1)

/-- A 4-byte frame's words in a block whose composite fault flag is W1[0] (30_encoding R47, R58). -/
def decodeFrame32W1 (w0 w1 : Word16) : Instr :=
  if w1.getLsbD 0 then
    .f32MissingTc (w0.extractLsb' 2 14) (w0.extractLsb' 0 2) (w1.extractLsb' 4 12) (w1.extractLsb' 3 1)
      (w1.extractLsb' 1 2)
  else
    .f32Ok (w0.extractLsb' 2 14) (w0.extractLsb' 0 2) (w1.extractLsb' 4 12) (w1.extractLsb' 3 1)
      (w1.extractLsb' 1 2)

/-- A 4-byte frame's words in a block whose composite fault flag is W0[0] (30_encoding R47, R62). -/
def decodeFrame32W0 (w0 w1 : Word16) : Instr :=
  let x0 := w0.extractLsb' 2 14
  let r0 := w0.extractLsb' 1 1
  let x1 := w1.extractLsb' 4 12
  let r1 := w1.extractLsb' 3 1
  if w0.getLsbD 0 then
    if w1.getLsbD 0 then .f32w0MissingTc x0 r0 x1 r1 (w1.extractLsb' 1 2)
    else if w1.getLsbD 1 then .f32w0GndShort x0 r0 x1 r1 (w1.extractLsb' 2 1)
    else if w1.getLsbD 2 then .f32w0VccShort x0 r0 x1 r1
    else .f32w0GenericFault x0 r0 x1 r1
  else .f32w0Ok x0 r0 x1 r1 (w1.extractLsb' 0 3)

/-- A 4-byte frame's words (30_encoding R58 or R62, as CFLAG_SEL says). -/
def decodeFrame32 (sel : CflagSel) (w0 w1 : Word16) : Instr :=
  match sel with
  | .w1Bit0 => decodeFrame32W1 w0 w1
  | .w0Bit0 => decodeFrame32W0 w0 w1

/-- The decoder, on the bytes of one command or one frame, the byte received first at the head (20_memory R31:
big-endian). A command is one byte whose low four bits are CMD. -/
def decode (sel : CflagSel) (format : Format) (bytes : List Byte) : Decoded :=
  match format, bytes with
  | .command, [b] =>
    if b.extractLsb' 4 4 = 0#4 then .instr (decodeCmd (b.extractLsb' 0 4)) else .commandTooWide
  | .frame16, [b0, b1] => .instr (decodeFrame16 (b0 ++ b1))
  | .frame32, [b0, b1, b2, b3] => .instr (decodeFrame32 sel (b0 ++ b1) (b2 ++ b3))
  | _, _ => .wrongLength

/-! The encoder. -/

/-- The format of an instruction's bits. -/
def formatOf : Instr → Format
  | .tcraw _ | .tccnvC | .tccnvF | .tccnvK => .command
  | .allraw _ | .allcnvC | .allcnvF | .allcnvK => .command
  | .reserved _ => .command
  | .f16Ok _ _ | .f16GenericFault _ _ => .frame16
  | .f32Ok _ _ _ _ _ | .f32MissingTc _ _ _ _ _ => .frame32
  | .f32w0Ok _ _ _ _ _ | .f32w0MissingTc _ _ _ _ _ => .frame32
  | .f32w0GndShort _ _ _ _ _ | .f32w0VccShort _ _ _ _ | .f32w0GenericFault _ _ _ _ => .frame32

/-- How many bytes a format has (20_memory R35; a command is held in one byte). -/
def Format.bytes : Format → Nat
  | .command => 1
  | .frame16 => Config.frame16Bytes
  | .frame32 => Config.frame32Bytes

/-- The byte that holds a command word. -/
def commandBytes (cmd : BitVec 4) : List Byte := [0#4 ++ cmd]

/-- A word's bytes, the more significant one first (20_memory R31). -/
def wordBytes (w : Word16) : List Byte := [w.extractLsb' 8 8, w.extractLsb' 0 8]

/-- The bytes of an instruction, from the patterns of 30_encoding R54, R55, R57, R58 and R62. -/
def encode : Instr → List Byte
  | .tcraw unit => commandBytes (unit ++ 0b00#2)
  | .tccnvC => commandBytes 0b0010#4
  | .tccnvF => commandBytes 0b0110#4
  | .tccnvK => commandBytes 0b1010#4
  | .allraw unit => commandBytes (unit ++ 0b01#2)
  | .allcnvC => commandBytes 0b0011#4
  | .allcnvF => commandBytes 0b0111#4
  | .allcnvK => commandBytes 0b1011#4
  | .reserved wide => commandBytes (0b111#3 ++ wide)
  | .f16Ok t r => wordBytes (t ++ r ++ 0b0#1)
  | .f16GenericFault x r => wordBytes (x ++ r ++ 0b1#1)
  | .f32Ok t r0 i r1 x => wordBytes (t ++ r0) ++ wordBytes (i ++ r1 ++ x ++ 0b0#1)
  | .f32MissingTc x0 r0 x1 r1 x2 => wordBytes (x0 ++ r0) ++ wordBytes (x1 ++ r1 ++ x2 ++ 0b1#1)
  | .f32w0Ok t r0 i r1 x => wordBytes (t ++ r0 ++ 0b0#1) ++ wordBytes (i ++ r1 ++ x)
  | .f32w0MissingTc x0 r0 x1 r1 x2 => wordBytes (x0 ++ r0 ++ 0b1#1) ++ wordBytes (x1 ++ r1 ++ x2 ++ 0b1#1)
  | .f32w0GndShort x0 r0 x1 r1 x2 => wordBytes (x0 ++ r0 ++ 0b1#1) ++ wordBytes (x1 ++ r1 ++ x2 ++ 0b10#2)
  | .f32w0VccShort x0 r0 x1 r1 => wordBytes (x0 ++ r0 ++ 0b1#1) ++ wordBytes (x1 ++ r1 ++ 0b100#3)
  | .f32w0GenericFault x0 r0 x1 r1 => wordBytes (x0 ++ r0 ++ 0b1#1) ++ wordBytes (x1 ++ r1 ++ 0b000#3)

/-- The thermocouple word of a count with its fault bit and W[1] given (30_encoding R61: `tc_field = c mod 2^14`). -/
def encodeTcWord (c : Count) (r fault : BitVec 1) : Word16 := c.extractLsb' 0 14 ++ r ++ fault

/-- The internal word of a count with W1[3:0] given (30_encoding R61: `int_field = c mod 2^12`). -/
def encodeIntWord (c : Count) (low : BitVec 4) : Word16 := c.extractLsb' 0 12 ++ low

/-! The host's numbering: the row's bits as one number, bit 0 the least significant (spec/opcode_table.json). -/

/-- The bytes of a table row's bits `w`, first byte at the head: one byte for a command row, a big-endian word or two
big-endian words for a frame row. -/
def tableBytes (nbits w : Nat) : Option (Format × List Byte) :=
  if nbits ≤ 8 then some (.command, [BitVec.ofNat 8 w])
  else if nbits = 16 then some (.frame16, wordBytes (BitVec.ofNat 16 w))
  else if nbits = 32 then some (.frame32, wordBytes (BitVec.ofNat 16 (w / 65536)) ++ wordBytes (BitVec.ofNat 16 w))
  else none

/-- The instruction the decoder of a block built with the default CFLAG_SEL reads from a table row's bits. -/
def decodeTableWord (nbits w : Nat) : Option Instr :=
  match tableBytes nbits w with
  | none => none
  | some (format, bytes) =>
    match decode Config.default.cflagSel format bytes with
    | .instr i => some i
    | .wrongLength => none
    | .commandTooWide => none

end Sys2Proof
end

