-- ==== Sys2Proof/Machine/State.lean ====
section
/-! DEFINITION. The machine's state as plain data: the block's configuration and ports (10_state), and its
environment (42_transaction_wrapper), with reset (10_state R28, 70_reset R170). -/

namespace Sys2Proof.Machine

/-! ## What the block answers -/

/-- FaultKind, the closed set of device faults (60_exceptions R145). -/
inductive FaultKind where
  | genericFault
  | missingTc
  | gndShort
  | vccShort
  deriving DecidableEq, Repr

/-- Unit, the closed set of temperature units (30_encoding R54, R55). -/
inductive TempUnit where
  | celsius
  | fahrenheit
  | kelvin
  deriving DecidableEq, Repr

/-- The four result types of DOC0 (10_state R25). -/
inductive Result where
  | raw (tc : Count)
  | rawPair (tc int : Count)
  | converted (tc : Temp)
  | convertedPair (tc int : Temp) (unit : TempUnit)
  deriving DecidableEq, Repr

/-! ## The block's output ports -/

/-- The output ports (10_state R11). `none` is a port that holds no value (10_state R20). -/
structure Outputs where
  valid    : Bool
  status   : Option (BitVec 3)
  tcCount  : Option Count
  intCount : Option Count
  tcTemp   : Option Temp
  intTemp  : Option Temp
  unitTag  : Option (BitVec 2)
  deriving DecidableEq, Repr

/-- The output ports after reset (10_state R28): VALID is 0 and no other port holds a value. -/
def Outputs.reset : Outputs :=
  { valid := false, status := none, tcCount := none, intCount := none, tcTemp := none, intTemp := none,
    unitTag := none }

/-- The names of the output ports, for a host that reads one. -/
inductive OutPort where
  | valid
  | status
  | tcCount
  | intCount
  | tcTemp
  | intTemp
  | unitTag
  deriving DecidableEq, Repr

/-- What a read of an output port gave. -/
inductive PortRead where
  | valid (v : Bool)
  | status (v : BitVec 3)
  | tcCount (v : Count)
  | intCount (v : Count)
  | tcTemp (v : Temp)
  | intTemp (v : Temp)
  | unitTag (v : BitVec 2)
  /-- The read faulted, since VALID was 0: 'a model gives them no value and faults a read of them' (70_reset R170). It
  gave no value, and the machine goes on (log 6). -/
  | faulted (port : OutPort)
  deriving DecidableEq, Repr

/-! ## The frame buffer -/

/-- The frame buffer (20_memory R30): the bytes received, by offset. An unlisted offset holds no byte. The
canonical form is `Memory.wf` (Machine/Ops.lean). -/
abbrev Memory := List Host.Cell

/-- The bytes of one frame, first received first (20_memory R30). -/
inductive FrameBytes where
  | two (b0 b1 : Byte)
  | four (b0 b1 b2 b3 : Byte)
  deriving DecidableEq, Repr

/-- The two frame lengths (30_encoding R45, 42_transaction_wrapper R116). -/
inductive FrameLen where
  | two
  | four
  deriving DecidableEq, Repr

/-! ## The environment -/

/-- An opaque pin error (42_transaction_wrapper R115, R121): a token no rule looks into (log 14). -/
structure PinError where
  token : Nat
  deriving DecidableEq, Repr

/-- An opaque transport error (42_transaction_wrapper R114, R121): a token no rule looks into (log 14). -/
structure TransportError where
  token : Nat
  deriving DecidableEq, Repr

/-- A level of the chip-select line: Low asserts, High deasserts (42_transaction_wrapper R115). -/
inductive CsLevel where
  | low
  | high
  deriving DecidableEq, Repr

/-- What the digital output pin primitive answers to one `set_cs` (42_transaction_wrapper R115). -/
inductive PinAnswer where
  | ok
  | error (e : PinError)
  deriving DecidableEq, Repr

/-- What the byte-exchange primitive answers (42_transaction_wrapper R114). On success, the bytes the device sends,
first first; a 2-byte exchange takes `b0` and `b1` (log 22). -/
inductive ExchangeAnswer where
  | received (b0 b1 b2 b3 : Byte)
  | error (e : TransportError)
  deriving DecidableEq, Repr

/-- One exchange under its execution model (42_transaction_wrapper R117, R118): blocking, suspending, or suspending
and cancelled by the task scheduler; `wait` is how many steps it lasts before it ends (log 13, 16). -/
inductive Exchange where
  | blocking (wait : Nat) (answer : ExchangeAnswer)
  | suspending (wait : Nat) (answer : ExchangeAnswer)
  | cancelled (wait : Nat)
  deriving DecidableEq, Repr

/-- The four operations of the Public API (43_block_operations R134 to R137). -/
inductive ApiOp where
  | readThermocoupleRaw
  | readThermocouple (unit : TempUnit)
  | readAllRaw
  | readAll (unit : TempUnit)
  deriving DecidableEq, Repr

/-- One API call and what the collaborators will answer in it: unconstrained inputs (93_implementation_defined U18,
91_not_in_source N11). -/
structure Call where
  op       : ApiOp
  driveLow : PinAnswer
  exchange : Exchange
  driveHigh : PinAnswer
  deriving DecidableEq, Repr

/-- One action of the host's program (95_test_vectors section 3; 70_reset R170; 10_state R11). None drives chip-select
outside a call: what software does with a line that a failed exchange left asserted, which 70_reset R173 leaves to it,
is here its next call or nothing (the model's choice; log 29). -/
inductive HostAction where
  /-- An API call. -/
  | call (c : Call)
  /-- A bare block operation: place the frame on FRAME and `cmd` on CMD, and raise START. -/
  | operate (cmd : BitVec 4) (bytes : FrameBytes)
  /-- Read an output port. -/
  | read (port : OutPort)
  /-- Reset the block. -/
  | reset
  deriving DecidableEq, Repr

/-- What an API call returned (43_block_operations R134 to R137; the six failures are 60_exceptions R148). -/
inductive ApiResult where
  | ok (r : Result)
  | pin (e : PinError)
  | transport (e : TransportError)
  | device (k : FaultKind)
  deriving DecidableEq, Repr

/-- One event on the bus (42_transaction_wrapper R122). -/
inductive BusEvent where
  | setCs (level : CsLevel) (answer : PinAnswer)
  | exchange (len : FrameLen) (answer : ExchangeAnswer)
  | exchangeCancelled (len : FrameLen)
  deriving DecidableEq, Repr

/-- Where the host stands in an API call (42_transaction_wrapper R111, 43_block_operations R134 to R137). -/
inductive Phase where
  /-- No call in progress. -/
  | idle
  /-- About to drive chip-select low. -/
  | drivingLow (c : Call)
  /-- In the byte exchange, with `left` more steps before it ends. -/
  | exchanging (c : Call) (left : Nat)
  /-- About to drive chip-select high. -/
  | drivingHigh (c : Call)
  /-- The transaction returned Ok: about to raise START. -/
  | starting (op : ApiOp)
  /-- START was raised for `op`: about to collect its result. -/
  | collecting (op : ApiOp)
  deriving DecidableEq, Repr

/-- The environment of the block (42_transaction_wrapper). -/
structure Env where
  /-- The chip-select line as last driven; `none` is unknown (42_transaction_wrapper R113, N10, N21; log 15). -/
  cs      : Option CsLevel
  phase   : Phase
  /-- The host's program, next action first. -/
  todo    : List HostAction
  /-- The resets of the block still to come from outside (70_reset R170: at any time between operations), next one
  first: for each, how many steps with START at 0 pass before it (log 27). -/
  resets  : List Nat
  /-- The model's record of bus events, oldest first (log 20). -/
  trace   : List BusEvent
  /-- The model's record of what API calls returned, oldest first (log 20). -/
  results : List ApiResult
  /-- The model's record of port reads, oldest first (log 20). -/
  reads   : List PortRead
  deriving DecidableEq, Repr

/-- The environment at the start: chip-select unknown (95_test_vectors section 3), no action to do (log 18), no
reset to come (log 27). -/
def Env.reset : Env :=
  { cs := none, phase := .idle, todo := [], resets := [], trace := [], results := [], reads := [] }

/-! ## The state -/

structure State where
  /-- The build-time parameters (00_scope R6); no step changes them (log 1). -/
  config : Config
  /-- Input port START (10_state R11). -/
  start  : Bool
  /-- Input port CMD (10_state R11, R12). -/
  cmd    : BitVec 4
  /-- Input port FRAME, as the bytes that drive it (20_memory R30, R43). -/
  frame  : Memory
  /-- The model's own: which free value an undriven FRAME byte (log 8) or a port that holds no value (log 6) reads
  as. -/
  draws  : Nat
  /-- The output ports (10_state R11). -/
  out    : Outputs
  /-- The environment (42_transaction_wrapper). -/
  env    : Env
  deriving DecidableEq, Repr

/-- The machine right after reset (10_state R28, 70_reset R170), built with the default parameters (00_scope R6).
`cmd` and `draws` are values the model names (log 7, 8). -/
def State.reset : State :=
  { config := Config.default, start := false, cmd := 0#4, frame := [], draws := 0, out := Outputs.reset,
    env := Env.reset }

/-! ## How a step can stop -/

/-- Why the machine stops with a fault. -/
inductive Fault where
  /-- The host collected a STATUS of 5, 6 or 7, which the block never produces (30_encoding R56); raised by collecting
  an API result, in states no run reaches. Safe. -/
  | statusNeverProduced
  deriving DecidableEq, Repr

/-- Why the machine refuses. -/
inductive Refusal where
  /-- The instruction has no meaning yet; raised by `exec`'s arm for it. Safe. -/
  | notModelled (mnemonic : String)
  /-- CMD is `0b1110` or `0b1111`, which spell no operation: 'a model refuses them' (30_encoding R55, D5); raised by
  `execReserved`. Safe. -/
  | reservedCommand
  deriving DecidableEq, Repr

end Sys2Proof.Machine
end

