-- ==== Sys2Proof/Machine/Flags.lean ====
section
/-! DEFINITION. The fault-bit splitter (40_frame_decoder R73 to R75) and the numeric codes of faults and units
(30_encoding R54, R56). The flags are wires inside one operation, never stored (10_state R23). -/

namespace Sys2Proof.Machine

/-- `gflag = W[0]` (40_frame_decoder R73). -/
def gflag (w : Word16) : Bool := w.getLsbD 0

/-- The four wires of 40_frame_decoder R74. -/
structure FaultBits where
  cflag : Bool
  oc    : Bool
  scg   : Bool
  scv   : Bool
  deriving DecidableEq, Repr

/-- The composite fault flag, from the word CFLAG_SEL names (40_frame_decoder R74). -/
def compositeFlag (sel : CflagSel) (w0 w1 : Word16) : Bool :=
  match sel with
  | .w1Bit0 => w1.getLsbD 0
  | .w0Bit0 => w0.getLsbD 0

/-- The 32-bit mode split (40_frame_decoder R74). -/
def splitFaultBits (sel : CflagSel) (w0 w1 : Word16) : FaultBits :=
  { cflag := compositeFlag sel w0 w1, oc := w1.getLsbD 0, scg := w1.getLsbD 1, scv := w1.getLsbD 2 }

/-- `resolve32` (40_frame_decoder R75), every arm kept; `none` is NoFault. -/
def resolve32 (b : FaultBits) : Option FaultKind :=
  if !b.cflag then none
  else if b.oc then some .missingTc
  else if b.scg then some .gndShort
  else if b.scv then some .vccShort
  else some .genericFault

/-- STATUS for a reading (30_encoding R56). -/
def statusOk : BitVec 3 := 0#3

/-- The STATUS code of a fault (30_encoding R56, 60_exceptions R146). -/
def faultCode : FaultKind → BitVec 3
  | .genericFault => 1#3
  | .missingTc => 2#3
  | .gndShort => 3#3
  | .vccShort => 4#3

/-- The fault a non-zero STATUS names; none for 0 and for the codes never produced (30_encoding R56). -/
def faultOfCode (code : BitVec 3) : Option FaultKind :=
  if code = 1#3 then some .genericFault
  else if code = 2#3 then some .missingTc
  else if code = 3#3 then some .gndShort
  else if code = 4#3 then some .vccShort
  else none

/-- The UNIT field of CMD and the code of UNIT_TAG (30_encoding R54, 10_state R11). -/
def unitCode : TempUnit → BitVec 2
  | .celsius => 0#2
  | .fahrenheit => 1#2
  | .kelvin => 2#2

end Sys2Proof.Machine
end

