-- ==== Sys2Proof/Machine/Operands.lean ====
section
/-! DEFINITION. The field extractor and sign-extend of the Frame Decoder (40_frame_decoder R66 to R72), with the
integer primitives of 00_scope R8. -/

namespace Sys2Proof.Machine

/-! ## Primitives (00_scope R8) -/

/-- `shl16(v, k) = (v * 2^k) mod 2^16`. -/
def shl16 (v : Word16) (k : Nat) : Word16 := BitVec.ofNat 16 (v.toNat * 2 ^ k)

/-- `s16(w)`: `w - 65536` when `w[15] = 1`, else `w`. -/
def s16 (w : Word16) : Int := if w.getLsbD 15 then (w.toNat : Int) - 65536 else (w.toNat : Int)

/-- `sdiv(a, d)`: signed division rounding toward zero. -/
def sdiv (a : Int) (d : Nat) : Int := a.tdiv (d : Int)

/-! ## Field extractor -/

/-- `WORD(hi, lo) = hi :: lo` (40_frame_decoder R66). -/
def word (hi lo : Byte) : Word16 := hi ++ lo

/-- `XTC(w) = w[15:2]` (40_frame_decoder R67). -/
def xtc (w : Word16) : BitVec 14 := w.extractLsb' 2 14

/-- `XINT(w) = w[15:4]` (40_frame_decoder R68). -/
def xint (w : Word16) : BitVec 12 := w.extractLsb' 4 12

/-! ## Sign-extend -/

/-- `count_of_field(field, len, div, shift)` (40_frame_decoder R69), DOC0's two paths. -/
def countOfField (field : Word16) (len div shift : Nat) : Count :=
  if field.getLsbD (len - 1) then BitVec.ofInt 16 (sdiv (s16 (shl16 field shift)) div) else field

/-- `SEXT14` (40_frame_decoder R70). -/
def sext14 (f : BitVec 14) : Count := countOfField (f.setWidth 16) Config.tcLen Config.tcDiv Config.tcShift

/-- `SEXT12` (40_frame_decoder R71). -/
def sext12 (f : BitVec 12) : Count := countOfField (f.setWidth 16) Config.intLen Config.intDiv Config.intShift

end Sys2Proof.Machine
end

