-- ==== Sys2Proof/Machine/FrameDecoder.lean ====
section
/-! DEFINITION. The two decode functions of the Frame Decoder (40_frame_decoder R77, R78). Fault detection comes before
the fields are looked at (R76). -/

namespace Sys2Proof.Machine

/-- `DEC16` (40_frame_decoder R77). -/
def dec16 (w : Word16) : Except FaultKind Count :=
  if gflag w then .error .genericFault else .ok (sext14 (xtc w))

/-- `DEC32` (40_frame_decoder R78). -/
def dec32 (sel : CflagSel) (w0 w1 : Word16) : Except FaultKind (Count × Count) :=
  match resolve32 (splitFaultBits sel w0 w1) with
  | some k => .error k
  | none => .ok (sext14 (xtc w0), sext12 (xint w1))

end Sys2Proof.Machine
end

