-- ==== Sys2Proof/Machine/Ops.lean ====
section
/-! DEFINITION. The named operations over the state: the frame buffer and the FRAME port (20_memory), driving the
output ports (10_state R20, R25), taking a fault (60_exceptions R152), and named updates of State and Env. -/

namespace Sys2Proof.Machine

/-! ## The frame buffer -/

/-- Every offset is below 4 and at least `low`, and the offsets rise strictly. -/
def risingFrom (low : Nat) : Memory → Bool
  | [] => true
  | (a, _) :: m => decide (low ≤ a) && decide (a < 4) && risingFrom (a + 1) m

/-- The canonical form of the frame buffer: offsets strictly rising and inside the address space (20_memory R30, R36).
An unlisted offset holds no byte, so no entry can equal what it reads as. -/
def Memory.wf (m : Memory) : Bool := risingFrom 0 m

/-- The byte at an offset, if one was received there. -/
def byteAt : Memory → Nat → Option Byte
  | [], _ => none
  | (a, b) :: m, x => if a = x then some b else byteAt m x

/-- The buffer with one byte written, in canonical form. -/
def setByte : Memory → Nat → Byte → Memory
  | [], x, v => [(x, v)]
  | (a, b) :: m, x, v => if x < a then (x, v) :: (a, b) :: m else if x = a then (x, v) :: m else (a, b) :: setByte m x v

/-- The buffer after an exchange has overwritten it with a frame's bytes (42_transaction_wrapper R114). -/
def loadFrame : FrameBytes → Memory
  | .two b0 b1 => setByte (setByte [] 0 b0) 1 b1
  | .four b0 b1 b2 b3 => setByte (setByte (setByte (setByte [] 0 b0) 1 b1) 2 b2) 3 b3

/-! ## The FRAME port -/

/-- Byte `offset` of FRAME as sampled: the buffer's byte, or a free value where nothing drives it (70_reset R177;
log 8). -/
def sampleByte (s : State) (offset : Nat) : Byte :=
  (byteAt s.frame offset).getD (Config.undrivenByte s.draws offset)

/-- `MemRead(addr, 2)`: the word at an offset, the byte at the lower offset more significant (00_scope R8, 20_memory
R31). -/
def memRead16 (s : State) (addr : Nat) : Word16 := word (sampleByte s addr) (sampleByte s (addr + 1))

/-- `W0`, and in 16-bit mode `W`: FRAME[31:16] (20_memory R32, R33, R43). -/
def frameWord0 (s : State) : Word16 := memRead16 s 0

/-- `W1`: FRAME[15:0] (20_memory R33, R43). -/
def frameWord1 (s : State) : Word16 := memRead16 s 2

/-- FRAME, `F32 = W0 :: W1` (20_memory R33, R43). -/
def framePort (s : State) : BitVec 32 := frameWord0 s ++ frameWord1 s

/-! ## Named updates -/

/-- Drive every output port at once (10_state R29). -/
def setOut (s : State) (o : Outputs) : State := { s with out := o }
/-- Replace the bytes that drive FRAME. -/
def setFrame (s : State) (m : Memory) : State := { s with frame := m }
/-- Drive START. -/
def setStart (s : State) (b : Bool) : State := { s with start := b }
/-- Drive CMD. -/
def setCmd (s : State) (c : BitVec 4) : State := { s with cmd := c }
/-- Say which free value comes next. -/
def setDraws (s : State) (n : Nat) : State := { s with draws := n }
/-- Move on to the next free value. -/
def nextDraw (s : State) : State := setDraws s (s.draws + 1)
/-- Replace the environment. -/
def setEnv (s : State) (e : Env) : State := { s with env := e }

/-- The chip-select line after it was driven, or unknown. -/
def setCsLine (s : State) (l : Option CsLevel) : State := setEnv s { s.env with cs := l }
/-- Move the host to another phase. -/
def setPhase (s : State) (p : Phase) : State := setEnv s { s.env with phase := p }
/-- Replace the host's program. -/
def setTodo (s : State) (t : List HostAction) : State := setEnv s { s.env with todo := t }
/-- Replace the resets still to come. -/
def setResets (s : State) (r : List Nat) : State := setEnv s { s.env with resets := r }
/-- Record a bus event. -/
def addEvent (s : State) (e : BusEvent) : State := setEnv s { s.env with trace := s.env.trace ++ [e] }
/-- Record what an API call returned. -/
def addResult (s : State) (r : ApiResult) : State := setEnv s { s.env with results := s.env.results ++ [r] }
/-- Record a port read. -/
def addRead (s : State) (r : PortRead) : State := setEnv s { s.env with reads := s.env.reads ++ [r] }

/-! ## Driving the output ports -/

/-- The ports after a fault (60_exceptions R152): STATUS and VALID, no other port holds a value. -/
def faultOutputs (k : FaultKind) : Outputs :=
  { Outputs.reset with valid := true, status := some (faultCode k) }

/-- The ports that carry a result (10_state R20, R25); every other port holds no value. -/
def resultOutputs : Result → Outputs
  | .raw tc => { Outputs.reset with valid := true, status := some statusOk, tcCount := some tc }
  | .rawPair tc int =>
    { Outputs.reset with valid := true, status := some statusOk, tcCount := some tc, intCount := some int }
  | .converted tc => { Outputs.reset with valid := true, status := some statusOk, tcTemp := some tc }
  | .convertedPair tc int u =>
    { Outputs.reset with
      valid := true, status := some statusOk, tcTemp := some tc, intTemp := some int, unitTag := some (unitCode u) }

/-- Taking a fault: `raise Fault(kind)` (60_exceptions R152, 00_scope R8). There is no handler, nothing is saved, and
no return exists (R153, R154): the next operation starts from nothing. -/
def raiseFault (s : State) (k : FaultKind) : State := setOut s (faultOutputs k)

/-- Completing with a reading (10_state R20). -/
def complete (s : State) (r : Result) : State := setOut s (resultOutputs r)

/-- The end of every operation: exactly one of a reading and a fault (40_frame_decoder R65, R85). -/
def finish (s : State) (outcome : Except FaultKind Result) : State :=
  match outcome with
  | .error k => raiseFault s k
  | .ok r => complete s r

/-! ## Reading the output ports -/

/-- What a read of each output port gives when VALID is 1: the value it holds, else a free value (10_state R20;
log 6). -/
def portStatus (draw : Nat) (o : Outputs) : BitVec 3 := o.status.getD (Config.unheldStatus draw)
/-- As `portStatus`, for TC_COUNT. -/
def portTcCount (draw : Nat) (o : Outputs) : Count := o.tcCount.getD (Config.unheldTcCount draw)
/-- As `portStatus`, for INT_COUNT. -/
def portIntCount (draw : Nat) (o : Outputs) : Count := o.intCount.getD (Config.unheldIntCount draw)
/-- As `portStatus`, for TC_TEMP. -/
def portTcTemp (draw : Nat) (o : Outputs) : Temp := o.tcTemp.getD (Config.unheldTcTemp draw)
/-- As `portStatus`, for INT_TEMP. -/
def portIntTemp (draw : Nat) (o : Outputs) : Temp := o.intTemp.getD (Config.unheldIntTemp draw)
/-- As `portStatus`, for UNIT_TAG. -/
def portUnitTag (draw : Nat) (o : Outputs) : BitVec 2 := o.unitTag.getD (Config.unheldUnitTag draw)

/-- A read of port `port` that would give `v`: while VALID is 0 it faults instead and gives no value (70_reset R170). -/
def readWhenValid (o : Outputs) (port : OutPort) (v : PortRead) : PortRead := if o.valid then v else .faulted port

/-- The host's read of an output port (10_state R20, 70_reset R170); VALID itself can always be read. -/
def readPort (draw : Nat) (o : Outputs) (port : OutPort) : PortRead :=
  match port with
  | .valid => .valid o.valid
  | .status => readWhenValid o port (.status (portStatus draw o))
  | .tcCount => readWhenValid o port (.tcCount (portTcCount draw o))
  | .intCount => readWhenValid o port (.intCount (portIntCount draw o))
  | .tcTemp => readWhenValid o port (.tcTemp (portTcTemp draw o))
  | .intTemp => readWhenValid o port (.intTemp (portIntTemp draw o))
  | .unitTag => readWhenValid o port (.unitTag (portUnitTag draw o))

/-- A read of a port and its record. -/
def recordRead (port : OutPort) (s : State) : State := addRead (nextDraw s) (readPort s.draws s.out port)

end Sys2Proof.Machine
end

