-- ==== Sys2Proof/Machine/Float.lean ====
section
/-! DEFINITION. The default NUMERICS: IEEE 754 binary32 with round to nearest, ties to even (41_unit_converter R98,
R99). A finite operand is taken apart into sign, magnitude and exponent, the result is computed exactly, and one
rounding at the end narrows it. -/

namespace Sys2Proof.Machine

/-- What a binary32 pattern stands for: `(-1)^neg * mag * 2^exp`, an infinity, or a NaN. -/
inductive Unpacked where
  | finite (neg : Bool) (mag : Nat) (exp : Int)
  | infinite (neg : Bool)
  | nan
  deriving DecidableEq, Repr

/-- The fields of binary32: 1 sign bit, 8 exponent bits (bias 127), 23 fraction bits (41_unit_converter R98). -/
def unpack (a : Temp) : Unpacked :=
  let neg := a.getLsbD 31
  let e := (a.extractLsb' 23 8).toNat
  let f := (a.extractLsb' 0 23).toNat
  if e = 255 then (if f = 0 then .infinite neg else .nan)
  else if e = 0 then .finite neg f (-149)
  else .finite neg (2 ^ 23 + f) ((e : Int) - 150)

/-- `m / 2^d` rounded to the nearest integer, ties to even. -/
def roundShift (m d : Nat) : Nat :=
  let q := m / 2 ^ d
  let r := m % 2 ^ d
  if 2 ^ d < 2 * r ∨ (2 * r = 2 ^ d ∧ q % 2 = 1) then q + 1 else q

/-- The largest power of two below `mag * 2^exp`'s leading bit that a binary32 of that size can hold, as an exponent:
23 places below the leading bit, but never below -149. -/
def quantum (mag : Nat) (exp : Int) : Int := max ((Nat.log2 mag : Int) + exp - 23) (-149)

/-- The binary32 magnitude bits (exponent and fraction fields as one number) of `mag * 2^exp` rounded to nearest even,
when it does not overflow. The fraction's carry into the exponent field is the sum's own carry. -/
def roundBits (mag : Nat) (exp : Int) : Nat :=
  let q := quantum mag exp
  let n := if q ≤ exp then mag * 2 ^ (exp - q).toNat else roundShift mag (q - exp).toNat
  (q + 149).toNat * 2 ^ 23 + n

/-- A sign and 31 magnitude bits as a pattern; a magnitude too large is the infinity. -/
def packBits (neg : Bool) (bits : Nat) : Temp :=
  BitVec.ofNat 32 (min bits 0x7F800000 + if neg then 2 ^ 31 else 0)

/-- `(-1)^neg * mag * 2^exp` rounded to binary32. -/
def roundPack (neg : Bool) (mag : Nat) (exp : Int) : Temp :=
  if mag = 0 then packBits neg 0 else packBits neg (roundBits mag exp)

/-- The NaN returned for two operands: a quiet NaN whose sign and payload are a free value (log 3). -/
def nanResult (a b : Temp) : Temp := (Config.nanBits a b &&& 0x803FFFFF#32) ||| 0x7FC00000#32

/-- `i16_to_f32` of the default record: the f32 equal to the integer (41_unit_converter R99). -/
def i16ToBinary32 (c : Count) : Temp := roundPack (c.toInt < 0) c.toInt.natAbs 0

/-- `fmul32` of the default record (41_unit_converter R99). -/
def fmulBinary32 (a b : Temp) : Temp :=
  match unpack a, unpack b with
  | .finite na ma ea, .finite nb mb eb => roundPack (na != nb) (ma * mb) (ea + eb)
  | .infinite na, .infinite nb => packBits (na != nb) 0x7F800000
  | .infinite na, .finite nb mb _ => if mb = 0 then nanResult a b else packBits (na != nb) 0x7F800000
  | .finite na ma _, .infinite nb => if ma = 0 then nanResult a b else packBits (na != nb) 0x7F800000
  | .nan, _ => nanResult a b
  | _, .nan => nanResult a b

/-- `(-1)^neg * mag * 2^exp` as a multiple of `2^low`, for `low ≤ exp`. -/
def scaled (neg : Bool) (mag : Nat) (exp low : Int) : Int :=
  let m : Int := (mag * 2 ^ (exp - low).toNat : Nat)
  if neg then -m else m

/-- `fadd32` of the default record (41_unit_converter R99). An exact zero sum is +0 unless both operands are
negative. -/
def faddBinary32 (a b : Temp) : Temp :=
  match unpack a, unpack b with
  | .finite na ma ea, .finite nb mb eb =>
    let low := min ea eb
    let sum := scaled na ma ea low + scaled nb mb eb low
    roundPack (if sum = 0 then na && nb else decide (sum < 0)) sum.natAbs low
  | .infinite na, .infinite nb => if na = nb then packBits na 0x7F800000 else nanResult a b
  | .infinite na, .finite _ _ _ => packBits na 0x7F800000
  | .finite _ _ _, .infinite nb => packBits nb 0x7F800000
  | .nan, _ => nanResult a b
  | _, .nan => nanResult a b

end Sys2Proof.Machine
end

