-- ==== Sys2Proof/Machine/UnitConverter.lean ====
section
/-! DEFINITION. The Unit Converter (41_unit_converter R91 to R97), over the NUMERICS the block is built with (R99). -/

namespace Sys2Proof.Machine

/-! ## The members of NUMERICS (41_unit_converter R99) -/

/-- `i16_to_f32(c)`. -/
def i16ToF32 (n : NumericsSel) (c : Count) : Temp :=
  match n with
  | .binary32 => i16ToBinary32 c
  | .other build _ => Config.otherI16ToF32 build c

/-- `fmul32(a, b)`. -/
def fmul32 (n : NumericsSel) (a b : Temp) : Temp :=
  match n with
  | .binary32 => fmulBinary32 a b
  | .other build _ => Config.otherFmul32 build a b

/-- `fadd32(a, b)`. -/
def fadd32 (n : NumericsSel) (a b : Temp) : Temp :=
  match n with
  | .binary32 => faddBinary32 a b
  | .other build _ => Config.otherFadd32 build a b

/-- The multiply-add `a * b + c`: two roundings (41_unit_converter R95), unless the build fuses it (R99). -/
def fmulAdd32 (n : NumericsSel) (a b c : Temp) : Temp :=
  match n with
  | .other build true => Config.otherFma32 build a b c
  | .other build false => fadd32 (.other build false) (fmul32 (.other build false) a b) c
  | .binary32 => fadd32 .binary32 (fmul32 .binary32 a b) c

/-- The constant 1.8. -/
def constFMul (n : NumericsSel) : Temp :=
  match n with
  | .binary32 => Config.fMul
  | .other build _ => Config.otherFMul build

/-- The constant 32. -/
def constFAdd (n : NumericsSel) : Temp :=
  match n with
  | .binary32 => Config.fAdd
  | .other build _ => Config.otherFAdd build

/-- The constant 273.15. -/
def constKAdd (n : NumericsSel) : Temp :=
  match n with
  | .binary32 => Config.kAdd
  | .other build _ => Config.otherKAdd build

/-! ## Scale -/

/-- `CVTC.TC(c) = fmul32(i16_to_f32(c), 0.25)` (41_unit_converter R92). -/
def cvtcTc (n : NumericsSel) (c : Count) : Temp := fmul32 n (i16ToF32 n c) Config.scaleTc

/-- `CVTC.INT(c) = fmul32(i16_to_f32(c), 0.0625)` (41_unit_converter R93). -/
def cvtcInt (n : NumericsSel) (c : Count) : Temp := fmul32 n (i16ToF32 n c) Config.scaleInt

/-! ## Offset and unit selector mux -/

/-- `UNIT.C(t) = t` (41_unit_converter R94). -/
def unitC (t : Temp) : Temp := t

/-- `UNIT.F(t) = fadd32(fmul32(t, 1.8), 32)` (41_unit_converter R95; R99 for a build that fuses it). -/
def unitF (n : NumericsSel) (t : Temp) : Temp := fmulAdd32 n t (constFMul n) (constFAdd n)

/-- `UNIT.K(t) = fadd32(t, 273.15)` (41_unit_converter R96). -/
def unitK (n : NumericsSel) (t : Temp) : Temp := fadd32 n t (constKAdd n)

/-- The unit selector (41_unit_converter R97). -/
def toUnit (n : NumericsSel) (u : TempUnit) (t : Temp) : Temp :=
  match u with
  | .celsius => unitC t
  | .fahrenheit => unitF n t
  | .kelvin => unitK n t

end Sys2Proof.Machine
end

