-- ==== Sys2Proof/Machine/AllChannels.lean ====
section
/-! DEFINITION. The four 32-bit mode operations (43_block_operations R130 to R133) and the reserved command words
(30_encoding R55). -/

namespace Sys2Proof.Machine

/-- Decode the 4-byte frame and give its counts to `f` (43_block_operations R125 steps 1 and 2). -/
def withDec32 (s : State) (f : Count → Count → Result) : State :=
  finish s ((dec32 s.config.cflagSel (frameWord0 s) (frameWord1 s)).map fun c => f c.1 c.2)

/-- `ALLRAW` (43_block_operations R130); CMD[3:2] is ignored. -/
def execAllraw (_unit : BitVec 2) (s : State) : Host.Outcome State Fault Refusal :=
  .next (withDec32 s fun tc int => .rawPair tc int)

/-- `ALLCNV.C` (43_block_operations R131). -/
def execAllcnvC (s : State) : Host.Outcome State Fault Refusal :=
  .next (withDec32 s fun tc int =>
    .convertedPair (unitC (cvtcTc s.config.numerics tc)) (unitC (cvtcInt s.config.numerics int)) .celsius)

/-- `ALLCNV.F` (43_block_operations R132). -/
def execAllcnvF (s : State) : Host.Outcome State Fault Refusal :=
  .next (withDec32 s fun tc int =>
    .convertedPair (unitF s.config.numerics (cvtcTc s.config.numerics tc))
      (unitF s.config.numerics (cvtcInt s.config.numerics int)) .fahrenheit)

/-- `ALLCNV.K` (43_block_operations R133). -/
def execAllcnvK (s : State) : Host.Outcome State Fault Refusal :=
  .next (withDec32 s fun tc int =>
    .convertedPair (unitK s.config.numerics (cvtcTc s.config.numerics tc))
      (unitK s.config.numerics (cvtcInt s.config.numerics int)) .kelvin)

/-- The reserved command words: 'a model refuses them (no step, the refusal recorded; never a value)' (30_encoding
R55). -/
def execReserved (_wide : BitVec 1) (_s : State) : Host.Outcome State Fault Refusal :=
  .refused .reservedCommand

end Sys2Proof.Machine
end

