-- ==== Sys2Proof/Machine/FrameRows.lean ====
section
/-! DEFINITION. The nine frame outcome rows of spec/opcode_table.json: what the Frame Decoder answers to a frame of
that pattern (30_encoding R57, R58, R62). The frame is the instruction's own bits and has no CMD of its own (R60), so
its outcome is delivered as the raw operation of its width delivers it (43_block_operations R126, R130; log 17). -/

namespace Sys2Proof.Machine

/-- `F16.OK` (30_encoding R57). -/
def execF16Ok (t : BitVec 14) (_r : BitVec 1) (s : State) : Host.Outcome State Fault Refusal :=
  .next (complete s (.raw (sext14 t)))

/-- `F16.GENERIC_FAULT` (30_encoding R57). -/
def execF16GenericFault (_x : BitVec 14) (_r : BitVec 1) (s : State) : Host.Outcome State Fault Refusal :=
  .next (raiseFault s .genericFault)

/-- `F32.OK` (30_encoding R58). -/
def execF32Ok (t : BitVec 14) (_r0 : BitVec 2) (i : BitVec 12) (_r1 : BitVec 1) (_x : BitVec 2) (s : State) :
    Host.Outcome State Fault Refusal :=
  .next (complete s (.rawPair (sext14 t) (sext12 i)))

/-- `F32.MISSING_TC` (30_encoding R58). -/
def execF32MissingTc (_x0 : BitVec 14) (_r0 : BitVec 2) (_x1 : BitVec 12) (_r1 : BitVec 1) (_x2 : BitVec 2)
    (s : State) : Host.Outcome State Fault Refusal :=
  .next (raiseFault s .missingTc)

/-- `F32_W0.OK` (30_encoding R62). -/
def execF32w0Ok (t : BitVec 14) (_r0 : BitVec 1) (i : BitVec 12) (_r1 : BitVec 1) (_x : BitVec 3) (s : State) :
    Host.Outcome State Fault Refusal :=
  .next (complete s (.rawPair (sext14 t) (sext12 i)))

/-- `F32_W0.MISSING_TC` (30_encoding R62). -/
def execF32w0MissingTc (_x0 : BitVec 14) (_r0 : BitVec 1) (_x1 : BitVec 12) (_r1 : BitVec 1) (_x2 : BitVec 2)
    (s : State) : Host.Outcome State Fault Refusal :=
  .next (raiseFault s .missingTc)

/-- `F32_W0.GND_SHORT` (30_encoding R62). -/
def execF32w0GndShort (_x0 : BitVec 14) (_r0 : BitVec 1) (_x1 : BitVec 12) (_r1 : BitVec 1) (_x2 : BitVec 1)
    (s : State) : Host.Outcome State Fault Refusal :=
  .next (raiseFault s .gndShort)

/-- `F32_W0.VCC_SHORT` (30_encoding R62). -/
def execF32w0VccShort (_x0 : BitVec 14) (_r0 : BitVec 1) (_x1 : BitVec 12) (_r1 : BitVec 1) (s : State) :
    Host.Outcome State Fault Refusal :=
  .next (raiseFault s .vccShort)

/-- `F32_W0.GENERIC_FAULT` (30_encoding R62). -/
def execF32w0GenericFault (_x0 : BitVec 14) (_r0 : BitVec 1) (_x1 : BitVec 12) (_r1 : BitVec 1) (s : State) :
    Host.Outcome State Fault Refusal :=
  .next (raiseFault s .genericFault)

end Sys2Proof.Machine
end

