-- ==== Sys2Proof/Machine/Thermocouple.lean ====
section
/-! DEFINITION. The four 16-bit mode operations (43_block_operations R126 to R129): decode FRAME[31:16], then convert
(R125). -/

namespace Sys2Proof.Machine

/-- Decode the 2-byte frame and give its count to `f` (43_block_operations R125 steps 1 and 2). -/
def withDec16 (s : State) (f : Count → Result) : State := finish s ((dec16 (frameWord0 s)).map f)

/-- `TCRAW` (43_block_operations R126); CMD[3:2] is ignored. -/
def execTcraw (_unit : BitVec 2) (s : State) : Host.Outcome State Fault Refusal :=
  .next (withDec16 s fun tc => .raw tc)

/-- `TCCNV.C` (43_block_operations R127). -/
def execTccnvC (s : State) : Host.Outcome State Fault Refusal :=
  .next (withDec16 s fun tc => .converted (unitC (cvtcTc s.config.numerics tc)))

/-- `TCCNV.F` (43_block_operations R128). -/
def execTccnvF (s : State) : Host.Outcome State Fault Refusal :=
  .next (withDec16 s fun tc => .converted (unitF s.config.numerics (cvtcTc s.config.numerics tc)))

/-- `TCCNV.K` (43_block_operations R129). -/
def execTccnvK (s : State) : Host.Outcome State Fault Refusal :=
  .next (withDec16 s fun tc => .converted (unitK s.config.numerics (cvtcTc s.config.numerics tc)))

end Sys2Proof.Machine
end

