-- ==== Sys2Proof/Machine/Dispatch.lean ====
section
/-! DEFINITION. One arm per constructor of Instr, each one call of its meaning. -/

namespace Sys2Proof.Machine

/-- What an instruction does to the state (43_block_operations R126 to R133; 30_encoding R55, R57, R58, R62). -/
def exec (i : Instr) (s : State) : Host.Outcome State Fault Refusal :=
  match i with
  | .tcraw unit => Sys2Proof.Machine.execTcraw unit s
  | .tccnvC => Sys2Proof.Machine.execTccnvC s
  | .tccnvF => Sys2Proof.Machine.execTccnvF s
  | .tccnvK => Sys2Proof.Machine.execTccnvK s
  | .allraw unit => Sys2Proof.Machine.execAllraw unit s
  | .allcnvC => Sys2Proof.Machine.execAllcnvC s
  | .allcnvF => Sys2Proof.Machine.execAllcnvF s
  | .allcnvK => Sys2Proof.Machine.execAllcnvK s
  | .reserved wide => Sys2Proof.Machine.execReserved wide s
  | .f16Ok t r => Sys2Proof.Machine.execF16Ok t r s
  | .f16GenericFault x r => Sys2Proof.Machine.execF16GenericFault x r s
  | .f32Ok t ra n rb x => Sys2Proof.Machine.execF32Ok t ra n rb x s
  | .f32MissingTc xa ra xb rb xc => Sys2Proof.Machine.execF32MissingTc xa ra xb rb xc s
  | .f32w0Ok t ra n rb x => Sys2Proof.Machine.execF32w0Ok t ra n rb x s
  | .f32w0MissingTc xa ra xb rb xc => Sys2Proof.Machine.execF32w0MissingTc xa ra xb rb xc s
  | .f32w0GndShort xa ra xb rb xc => Sys2Proof.Machine.execF32w0GndShort xa ra xb rb xc s
  | .f32w0VccShort xa ra xb rb => Sys2Proof.Machine.execF32w0VccShort xa ra xb rb s
  | .f32w0GenericFault xa ra xb rb => Sys2Proof.Machine.execF32w0GenericFault xa ra xb rb s

end Sys2Proof.Machine
end

