-- ==== Sys2Proof/Machine/Wrapper.lean ====
section
/-! DEFINITION. The environment of the block: the Transaction Wrapper (42_transaction_wrapper R110 to R122), the four
API operations (43_block_operations R134 to R137), and the host's other actions. One step is one `set_cs`, one step
of the exchange, the raising of START, or the collecting of a result (log 12). -/

namespace Sys2Proof.Machine

/-! ## What an API operation asks for -/

/-- The frame length of an API operation (42_transaction_wrapper R116). -/
def apiLen : ApiOp → FrameLen
  | .readThermocoupleRaw => .two
  | .readThermocouple _ => .two
  | .readAllRaw => .four
  | .readAll _ => .four

/-- The command word an API operation issues (30_encoding R54, R60); a raw one with UNIT = 0 (log 21). -/
def apiCmd : ApiOp → BitVec 4
  | .readThermocoupleRaw => 0b0000#4
  | .readThermocouple u => unitCode u ++ 0b10#2
  | .readAllRaw => 0b0001#4
  | .readAll u => unitCode u ++ 0b11#2

/-- The bytes of an answer that an exchange of this length moves (42_transaction_wrapper R114, R116; log 22). -/
def takeBytes (len : FrameLen) (b0 b1 b2 b3 : Byte) : FrameBytes :=
  match len with
  | .two => .two b0 b1
  | .four => .four b0 b1 b2 b3

/-- How many steps an exchange lasts before it ends (42_transaction_wrapper R117). -/
def exchangeWait : Exchange → Nat
  | .blocking wait _ => wait
  | .suspending wait _ => wait
  | .cancelled wait => wait

/-- What the exchange answers; none when the scheduler cancels it (42_transaction_wrapper R118). -/
def exchangeAnswer : Exchange → Option ExchangeAnswer
  | .blocking _ answer => some answer
  | .suspending _ answer => some answer
  | .cancelled _ => none

/-! ## The transaction (42_transaction_wrapper R111) -/

/-- The end of a call: its buffer is gone (20_memory R38) and the host is idle again. -/
def endCall (s : State) : State := setPhase (setFrame s []) .idle

/-- A failed call: the error is surfaced at once, nothing else is done (42_transaction_wrapper R112, R120). -/
def failCall (s : State) (r : ApiResult) : State := addResult (endCall s) r

/-- A call begins: an n-byte buffer that holds no byte yet (42_transaction_wrapper R111, 91_not_in_source N9). -/
def beginCall (c : Call) (s : State) : State := setPhase (setFrame s []) (.drivingLow c)

/-- `set_cs(Low)`. -/
def stepDriveLow (c : Call) (s : State) : State :=
  let s := addEvent s (.setCs .low c.driveLow)
  match c.driveLow with
  | .ok => setPhase (setCsLine s (some .low)) (.exchanging c (exchangeWait c.exchange))
  | .error e => failCall (setCsLine s none) (.pin e)

/-- The end of `exchange(buf)`: on success the buffer is overwritten; on failure chip-select stays as it is (R113); a
cancelled one leaves no frame and no result, and a line of unknown level (R118; log 16). -/
def stepExchange (c : Call) (s : State) : State :=
  let len := apiLen c.op
  match exchangeAnswer c.exchange with
  | some (.received b0 b1 b2 b3) =>
    setPhase (setFrame (addEvent s (.exchange len (.received b0 b1 b2 b3))) (loadFrame (takeBytes len b0 b1 b2 b3)))
      (.drivingHigh c)
  | some (.error e) => failCall (addEvent s (.exchange len (.error e))) (.transport e)
  | none => endCall (setCsLine (addEvent s (.exchangeCancelled len)) none)

/-- `set_cs(High)`; when it fails the frame is discarded (42_transaction_wrapper R112). -/
def stepDriveHigh (c : Call) (s : State) : State :=
  let s := addEvent s (.setCs .high c.driveHigh)
  match c.driveHigh with
  | .ok => setPhase (setCsLine s (some .high)) (.starting c.op)
  | .error e => failCall (setCsLine s none) (.pin e)

/-- The transaction returned Ok(buf): the block operation is started on it (43_block_operations R134 to R137). -/
def stepStart (op : ApiOp) (s : State) : State :=
  setPhase (setStart (setCmd s (apiCmd op)) true) (.collecting op)

/-! ## Collecting the result (43_block_operations R134 to R137) -/

/-- The reading on the ports, when STATUS is OK. -/
def collectReading (op : ApiOp) (draw : Nat) (o : Outputs) : Result :=
  match op with
  | .readThermocoupleRaw => .raw (portTcCount draw o)
  | .readThermocouple _ => .converted (portTcTemp draw o)
  | .readAllRaw => .rawPair (portTcCount draw o) (portIntCount draw o)
  | .readAll u => .convertedPair (portTcTemp draw o) (portIntTemp draw o) u

/-- What the API operation returns for a STATUS: the device fault it names, or the reading (43_block_operations
R141). -/
def resultOfStatus (op : ApiOp) (draw : Nat) (o : Outputs) (code : BitVec 3) : Except Fault ApiResult :=
  if code = statusOk then .ok (.ok (collectReading op draw o))
  else
    match faultOfCode code with
    | some k => .ok (.device k)
    | none => .error .statusNeverProduced

/-- The call returns: the host reads STATUS, and with STATUS OK the reading (43_block_operations R134 to R137). Where a
reset has cleared VALID that read faults (70_reset R170), and the call ends with the fault on record and no result
(log 27). -/
def stepCollect (op : ApiOp) (s : State) : Host.Outcome State Fault Refusal :=
  if s.out.valid then
    match resultOfStatus op s.draws s.out (portStatus s.draws s.out) with
    | .ok r => .next (addResult (endCall (nextDraw s)) r)
    | .error f => .fault f
  else .next (endCall (recordRead .status s))

/-! ## The host's other actions -/

/-- A bare block operation: the frame on FRAME, `cmd` on CMD, START raised (70_reset R172). -/
def startOperation (cmd : BitVec 4) (bytes : FrameBytes) (s : State) : State :=
  setStart (setCmd (setFrame s (loadFrame bytes)) cmd) true

/-- Reset of the block, between operations (70_reset R170): the output ports; the parameters are not touched. -/
def resetBlock (s : State) : State := setOut s Outputs.reset

/-- One action of the host's program. -/
def stepAction (a : HostAction) (s : State) : Host.Outcome State Fault Refusal :=
  match a with
  | .call c => .next (beginCall c s)
  | .operate cmd bytes => .next (startOperation cmd bytes s)
  | .read port => .next (recordRead port s)
  | .reset => .next (resetBlock s)

/-- A step of the host: the call in progress, else the next action of its program, else nothing happens
(60_exceptions R155). -/
def stepHost (s : State) : Host.Outcome State Fault Refusal :=
  match s.env.phase with
  | .drivingLow c => .next (stepDriveLow c s)
  | .exchanging c (left + 1) => .next (setPhase s (.exchanging c left))
  | .exchanging c 0 => .next (stepExchange c s)
  | .drivingHigh c => .next (stepDriveHigh c s)
  | .starting op => .next (stepStart op s)
  | .collecting op => stepCollect op s
  | .idle =>
    match s.env.todo with
    | [] => .next s
    | a :: rest => stepAction a (setTodo s rest)

/-- The resets to come once a step with START at 0 has passed without one. -/
def resetsAfterStep : List Nat → List Nat
  | [] => []
  | 0 :: rest => 0 :: rest
  | (n + 1) :: rest => n :: rest

/-- One step nearer to the next reset. -/
def tickResets (s : State) : State := setResets s (resetsAfterStep s.env.resets)

/-- A step of the environment while START is 0: a reset of the block when one is due, wherever the host's call stands
(70_reset R170: 'at any time between operations'; log 27), else a step of the host. -/
def stepEnv (s : State) : Host.Outcome State Fault Refusal :=
  match s.env.resets with
  | 0 :: rest => .next (setResets (resetBlock s) rest)
  | (_ + 1) :: _ => stepHost (tickResets s)
  | [] => stepHost s

/-! ## The handshake around an operation -/

/-- After the operation of one START: the host lowers START (log 10), and undriven FRAME bytes get fresh values
(log 8). -/
def afterOperation (s : State) : State := nextDraw (setStart s false)

/-- `afterOperation` when the operation gave a next state; a stop stays as it is. -/
def withAfter (r : Host.Outcome State Fault Refusal) : Host.Outcome State Fault Refusal :=
  match r with
  | .next s => .next (afterOperation s)
  | .fault f => .fault f
  | .refused x => .refused x

/-- Drive the input ports with a table row's bits: a command row on CMD; a frame row on FRAME, with the raw command of
its width on CMD, since a frame row has no CMD of its own (30_encoding R60; log 17). START is raised. -/
def driveTableWord (s : State) (nbits w : Nat) : State :=
  if nbits ≤ 8 then setStart (setCmd s (BitVec.ofNat 4 w)) true
  else if nbits = 16 then
    startOperation 0b0000#4 (.two (BitVec.ofNat 8 (w / 256)) (BitVec.ofNat 8 w)) s
  else if nbits = 32 then
    startOperation 0b0001#4
      (.four (BitVec.ofNat 8 (w / 16777216)) (BitVec.ofNat 8 (w / 65536)) (BitVec.ofNat 8 (w / 256)) (BitVec.ofNat 8 w))
      s
  else s

end Sys2Proof.Machine
end

