-- ==== Sys2Proof/Machine/Step.lean ====
section
/-! DEFINITION. One step of the machine: the block operation that START asks for (70_reset R176), else a step of the
environment. -/

namespace Sys2Proof.Machine

/-- CMD is sampled at START and names the operation (30_encoding R54, 70_reset R176); with START at 0 the block does
nothing (60_exceptions R155) and the environment moves. -/
def step (s : State) : Host.Outcome State Fault Refusal :=
  if s.start then withAfter (exec (decodeCmd s.cmd) s) else stepEnv s

/-- The state with a table row's instruction on the input ports and START raised. -/
def State.withFetchWord (s : State) (nbits w : Nat) : State := driveTableWord s nbits w

end Sys2Proof.Machine
end

