-- ==== Sys2Proof/Safety.lean ====
section
/-! DEFINITION. The terms the statements use: which output ports hold a value, the invariant of a run, the bus
discipline, what an API call should return, and the real value of an f32. -/

namespace Sys2Proof.Machine

/-! ## Counts and output ports -/

/-- A thermocouple count: 14-bit two's complement (40_frame_decoder R82). -/
def isTcCount (c : Count) : Bool := decide (-8192 ≤ c.toInt ∧ c.toInt ≤ 8191)

/-- An internal count: 12-bit two's complement (40_frame_decoder R82). -/
def isIntCount (c : Count) : Bool := decide (-2048 ≤ c.toInt ∧ c.toInt ≤ 2047)

/-- No output port but VALID and STATUS holds a value (10_state R20, the fault column). -/
def noReading (o : Outputs) : Bool :=
  o.tcCount.isNone && o.intCount.isNone && o.tcTemp.isNone && o.intTemp.isNone && o.unitTag.isNone

/-- The ports of one row of the OK column of 10_state R20 hold a value, and no others; counts are in range (R26) and
the tag names a unit (30_encoding R55). -/
def oneReading (o : Outputs) : Bool :=
  match o.tcCount, o.intCount, o.tcTemp, o.intTemp, o.unitTag with
  | some tc, none, none, none, none => isTcCount tc
  | some tc, some int, none, none, none => isTcCount tc && isIntCount int
  | none, none, some _, none, none => true
  | none, none, some _, some _, some tag => decide (tag ≠ 3#2)
  | _, _, _, _, _ => false

/-- What the output ports can hold (10_state R14, R20, R28): after reset nothing; after an operation a reading with
STATUS OK, or a fault code 1 to 4 and nothing else. -/
def outputsOk (o : Outputs) : Bool :=
  match o.valid, o.status with
  | false, none => noReading o
  | true, some code => if code = 0#3 then oneReading o else decide (code.toNat ≤ 4) && noReading o
  | _, _ => false

/-- The output ports after an operation: VALID is 1, STATUS holds `status`, and each other port holds what is given
(10_state R20). -/
def portsHolding (status : BitVec 3) (tc int : Option Count) (tcTemp intTemp : Option Temp)
    (tag : Option (BitVec 2)) : Outputs :=
  { valid := true, status := some status, tcCount := tc, intCount := int, tcTemp := tcTemp, intTemp := intTemp,
    unitTag := tag }

/-- The output ports after a fault: STATUS and VALID alone (60_exceptions R152). -/
def portsOfFault (code : BitVec 3) : Outputs := portsHolding code none none none none none

/-- The value a port holds, as the host's record of a read of it has it; VALID always holds one (10_state R20,
70_reset R170). -/
def portValue (o : Outputs) : OutPort → Option PortRead
  | .valid => some (.valid o.valid)
  | .status => o.status.map .status
  | .tcCount => o.tcCount.map .tcCount
  | .intCount => o.intCount.map .intCount
  | .tcTemp => o.tcTemp.map .tcTemp
  | .intTemp => o.intTemp.map .intTemp
  | .unitTag => o.unitTag.map .unitTag

/-- The port a record of a read is of. -/
def readOf : PortRead → OutPort
  | .valid _ => .valid
  | .status _ => .status
  | .tcCount _ => .tcCount
  | .intCount _ => .intCount
  | .tcTemp _ => .tcTemp
  | .intTemp _ => .intTemp
  | .unitTag _ => .unitTag
  | .faulted port => port

/-- The ports an API operation collects hold a value, unless a fault was reported (10_state R20, R25). -/
def carries (op : ApiOp) (o : Outputs) : Bool :=
  o.valid && (decide (o.status ≠ some 0#3) ||
    match op with
    | .readThermocoupleRaw => o.tcCount.isSome
    | .readThermocouple _ => o.tcTemp.isSome
    | .readAllRaw => o.tcCount.isSome && o.intCount.isSome
    | .readAll _ => o.tcTemp.isSome && o.intTemp.isSome)

/-- The 16-bit mode operations (43_block_operations R126 to R129). -/
def isOp16 : Instr → Bool
  | .tcraw _ | .tccnvC | .tccnvF | .tccnvK => true
  | .allraw _ | .allcnvC | .allcnvF | .allcnvK => false
  | .reserved _ => false
  | .f16Ok _ _ | .f16GenericFault _ _ => false
  | .f32Ok _ _ _ _ _ | .f32MissingTc _ _ _ _ _ => false
  | .f32w0Ok _ _ _ _ _ | .f32w0MissingTc _ _ _ _ _ => false
  | .f32w0GndShort _ _ _ _ _ | .f32w0VccShort _ _ _ _ | .f32w0GenericFault _ _ _ _ => false

/-- The 32-bit mode operations (43_block_operations R130 to R133). -/
def isOp32 : Instr → Bool
  | .tcraw _ | .tccnvC | .tccnvF | .tccnvK => false
  | .allraw _ | .allcnvC | .allcnvF | .allcnvK => true
  | .reserved _ => false
  | .f16Ok _ _ | .f16GenericFault _ _ => false
  | .f32Ok _ _ _ _ _ | .f32MissingTc _ _ _ _ _ => false
  | .f32w0Ok _ _ _ _ _ | .f32w0MissingTc _ _ _ _ _ => false
  | .f32w0GndShort _ _ _ _ _ | .f32w0VccShort _ _ _ _ | .f32w0GenericFault _ _ _ _ => false

/-! ## The invariant of a run -/

/-- Every byte of a frame of this length was received. -/
def frameHeld (len : FrameLen) (m : Memory) : Bool :=
  match len with
  | .two => (byteAt m 0).isSome && (byteAt m 1).isSome
  | .four => (byteAt m 0).isSome && (byteAt m 1).isSome && (byteAt m 2).isSome && (byteAt m 3).isSome

/-- What holds in each phase of a call (42_transaction_wrapper R111; 43_block_operations R134 to R137): chip-select is
low in the exchange and high once the transaction has returned; START is up only for the operation whose frame was
received, or with no call in progress; what is collected is there, unless a reset has cleared VALID (70_reset R170). -/
def phaseOk (s : State) : Bool :=
  match s.env.phase with
  | .idle => true
  | .drivingLow _ => !s.start && decide (s.frame = [])
  | .exchanging _ _ => !s.start && decide (s.frame = []) && decide (s.env.cs = some .low)
  | .drivingHigh c => !s.start && frameHeld (apiLen c.op) s.frame && decide (s.env.cs = some .low)
  | .starting op => !s.start && frameHeld (apiLen op) s.frame && decide (s.env.cs = some .high)
  | .collecting op =>
    frameHeld (apiLen op) s.frame && decide (s.env.cs = some .high) &&
      (if s.start then decide (s.cmd = apiCmd op) else !s.out.valid || carries op s.out)

/-- The invariant: the frame buffer is in canonical form, the output ports hold one of the legal patterns, and the
environment is where its phase says. -/
structure Inv (s : State) : Prop where
  memory  : Memory.wf s.frame = true
  outputs : outputsOk s.out = true
  phase   : phaseOk s = true

/-! ## The bus discipline (42_transaction_wrapper R111, R112, R122) -/

/-- Where the events on the bus stand: between transactions, chip-select just driven low, or a frame received. -/
inductive BusPosition where
  | between
  | selected
  | received
  deriving DecidableEq, Repr

/-- The events a transaction allows, in order; none where an event is out of place. An error ends the transaction with
no further event (R112). -/
def busNext : Option BusPosition → BusEvent → Option BusPosition
  | some .between, .setCs .low .ok => some .selected
  | some .between, .setCs .low (.error _) => some .between
  | some .selected, .exchange _ (.received _ _ _ _) => some .received
  | some .selected, .exchange _ (.error _) => some .between
  | some .selected, .exchangeCancelled _ => some .between
  | some .received, .setCs .high _ => some .between
  | _, _ => none

/-- Where a whole trace stands; none if some event was out of place. -/
def busPosition (trace : List BusEvent) : Option BusPosition := trace.foldl busNext (some .between)

/-- Where the bus stands in each phase of a call. -/
def phasePosition : Phase → BusPosition
  | .idle => .between
  | .drivingLow _ => .between
  | .exchanging _ _ => .selected
  | .drivingHigh _ => .received
  | .starting _ => .between
  | .collecting _ => .between

/-- Every event so far was in its place, and the bus stands where the phase says. -/
def BusInv (s : State) : Prop := busPosition s.env.trace = some (phasePosition s.env.phase)

/-! ## What an API call should return (43_block_operations R134 to R137) -/

/-- The result of an API operation whose transaction received these bytes: the device fault the decode finds, or the
reading. -/
def expectedResult (cfg : Config) (op : ApiOp) (b0 b1 b2 b3 : Byte) : ApiResult :=
  let n := cfg.numerics
  match op with
  | .readThermocoupleRaw =>
    match dec16 (word b0 b1) with
    | .error k => .device k
    | .ok tc => .ok (.raw tc)
  | .readThermocouple u =>
    match dec16 (word b0 b1) with
    | .error k => .device k
    | .ok tc => .ok (.converted (toUnit n u (cvtcTc n tc)))
  | .readAllRaw =>
    match dec32 cfg.cflagSel (word b0 b1) (word b2 b3) with
    | .error k => .device k
    | .ok (tc, int) => .ok (.rawPair tc int)
  | .readAll u =>
    match dec32 cfg.cflagSel (word b0 b1) (word b2 b3) with
    | .error k => .device k
    | .ok (tc, int) => .ok (.convertedPair (toUnit n u (cvtcTc n tc)) (toUnit n u (cvtcInt n int)) u)

/-- No operation and no call is in progress and no reset is to come from outside: START is down and the host is
idle. -/
def atRest (s : State) : Prop := s.start = false ∧ s.env.phase = .idle ∧ s.env.resets = []

/-! ## The real value of an f32 (41_unit_converter R98) -/

/-- The pattern is neither an infinity nor a NaN. -/
def isFinite (a : Temp) : Bool :=
  match unpack a with
  | .finite _ _ _ => true
  | .infinite _ => false
  | .nan => false

/-- The rational number a finite pattern stands for; 0 for the others. -/
def f32Value (a : Temp) : ℚ :=
  match unpack a with
  | .finite neg mag exp => (if neg then -1 else 1) * (mag : ℚ) * (2 : ℚ) ^ exp
  | .infinite _ => 0
  | .nan => 0

/-- `r` is `x` rounded to the nearest f32, ties to even (41_unit_converter R99): no finite pattern is nearer, and where
another value is as near, `r`'s last fraction bit is 0. -/
def IsNearestEven (x : ℚ) (r : Temp) : Prop :=
  isFinite r = true ∧
  (∀ y : Temp, isFinite y = true → |f32Value r - x| ≤ |f32Value y - x|) ∧
  (∀ y : Temp, isFinite y = true → f32Value y ≠ f32Value r → |f32Value y - x| = |f32Value r - x| →
    r.getLsbD 0 = false)

end Sys2Proof.Machine
end

