-- ==== Sys2Proof/Certificates/Slice0/Obligations.lean ====
section
/-! DEFINITION. The statements for the provers, from the numbered rules of spec/. -/

open Sys2Proof Sys2Proof.Machine

/-! ## Encoding -/

/-- 30_encoding R54: the table of command words, with x for a bit whose value does not matter. -/
def Obligations.CommandWordsDecode : Prop :=
  (∀ x : BitVec 2, decodeCmd (x ++ 0b00#2) = .tcraw x) ∧
  decodeCmd 0b0010#4 = .tccnvC ∧ decodeCmd 0b0110#4 = .tccnvF ∧ decodeCmd 0b1010#4 = .tccnvK ∧
  (∀ x : BitVec 2, decodeCmd (x ++ 0b01#2) = .allraw x) ∧
  decodeCmd 0b0011#4 = .allcnvC ∧ decodeCmd 0b0111#4 = .allcnvF ∧ decodeCmd 0b1011#4 = .allcnvK ∧
  decodeCmd 0b1110#4 = .reserved 0#1 ∧ decodeCmd 0b1111#4 = .reserved 1#1

/-- 30_encoding R46, R47, R57, R58, R62 on frames written out in 95_test_vectors V-D16 and V-D32. -/
def Obligations.FrameWordsDecode : Prop :=
  decode .w1Bit0 .frame16 [0x00#8, 0x28#8] = .instr (.f16Ok 10#14 0#1) ∧
  decode .w0Bit0 .frame16 [0x00#8, 0x2B#8] = .instr (.f16GenericFault 10#14 1#1) ∧
  decode .w1Bit0 .frame32 [0x01#8, 0x90#8, 0x19#8, 0x00#8] = .instr (.f32Ok 100#14 0#2 400#12 0#1 0#2) ∧
  decode .w1Bit0 .frame32 [0x00#8, 0x29#8, 0x19#8, 0x05#8] = .instr (.f32MissingTc 10#14 1#2 400#12 0#1 2#2) ∧
  decode .w0Bit0 .frame32 [0x00#8, 0x28#8, 0x19#8, 0x03#8] = .instr (.f32w0Ok 10#14 0#1 400#12 0#1 3#3) ∧
  decode .w0Bit0 .frame32 [0x00#8, 0x29#8, 0x19#8, 0x05#8] = .instr (.f32w0MissingTc 10#14 0#1 400#12 0#1 2#2) ∧
  decode .w0Bit0 .frame32 [0xFF#8, 0xFF#8, 0xFF#8, 0xFE#8] = .instr (.f32w0GndShort 0x3FFF#14 1#1 0xFFF#12 1#1 1#1) ∧
  decode .w0Bit0 .frame32 [0x00#8, 0x01#8, 0x00#8, 0x04#8] = .instr (.f32w0VccShort 0#14 0#1 0#12 0#1) ∧
  decode .w0Bit0 .frame32 [0x00#8, 0x01#8, 0x00#8, 0x08#8] = .instr (.f32w0GenericFault 0#14 0#1 0#12 1#1)

/-- Decoding the encoding of a well-formed instruction gives the instruction, with every operand at every value. -/
def Obligations.DecodeOfEncode : Prop :=
  ∀ (sel : CflagSel) (i : Instr), WellFormed sel i = true → decode sel (formatOf i) (encode i) = .instr i

/-- Bytes that decode are the encoding of what they decode to, which is well-formed and of that format. -/
def Obligations.EncodeOfDecode : Prop :=
  ∀ (sel : CflagSel) (format : Format) (bytes : List Byte) (i : Instr),
    decode sel format bytes = .instr i → encode i = bytes ∧ formatOf i = format ∧ WellFormed sel i = true

/-- 30_encoding R52: every frame decodes. Executing what it decodes to, which is the model's choice (log 17), completes
with one of the five outcomes. -/
def Obligations.NoFrameIsIllegal : Prop :=
  (∀ (sel : CflagSel) (b0 b1 : Byte), ∃ i, decode sel .frame16 [b0, b1] = .instr i ∧
    ∀ s, ∃ t code, exec i s = .next t ∧ t.out.status = some code ∧ code.toNat ≤ 4) ∧
  (∀ (sel : CflagSel) (b0 b1 b2 b3 : Byte), ∃ i, decode sel .frame32 [b0, b1, b2, b3] = .instr i ∧
    ∀ s, ∃ t code, exec i s = .next t ∧ t.out.status = some code ∧ code.toNat ≤ 4)

/-- 30_encoding R55: the reserved words are refused, by exec and by a step on them, and never given a value; with
CONV = 0 all four UNIT values are accepted, so that exec answers a next state, and ignored. -/
def Obligations.ReservedCommandsRefused : Prop :=
  (∀ (wide : BitVec 1) (s : State), exec (.reserved wide) s = .refused .reservedCommand) ∧
  (∀ s : State, s.start = true → s.cmd = 0b1110#4 ∨ s.cmd = 0b1111#4 → step s = .refused .reservedCommand) ∧
  (∀ (x y : BitVec 2) (s : State), ∃ t, exec (decodeCmd (x ++ 0b00#2)) s = .next t ∧
    exec (decodeCmd (y ++ 0b00#2)) s = .next t) ∧
  (∀ (x y : BitVec 2) (s : State), ∃ t, exec (decodeCmd (x ++ 0b01#2)) s = .next t ∧
    exec (decodeCmd (y ++ 0b01#2)) s = .next t)

/-! ## The Frame Decoder -/

/-- 40_frame_decoder R72: the two paths of `count_of_field` are sign extension from `len` bits, and the division is
exact. -/
def Obligations.SignExtensionIsTwosComplement : Prop :=
  ∀ (len : Nat) (field : Word16), 1 ≤ len → len ≤ 16 → field.toNat < 2 ^ len →
    (countOfField field len (2 ^ (16 - len)) (16 - len)).toInt =
      (if field.getLsbD (len - 1) then (field.toNat : Int) - 2 ^ len else (field.toNat : Int)) ∧
    (field.getLsbD (len - 1) = true → ((2 ^ (16 - len) : Nat) : Int) ∣ s16 (shl16 field (16 - len)))

/-- 40_frame_decoder R82: the ranges of the counts, that every value in them is produced, and the copies of the
sign. -/
def Obligations.CountRanges : Prop :=
  (∀ w tc, dec16 w = .ok tc → -8192 ≤ tc.toInt ∧ tc.toInt ≤ 8191 ∧
    ∀ i, 13 ≤ i → i ≤ 15 → tc.getLsbD i = tc.getLsbD 13) ∧
  (∀ sel w0 w1 tc int, dec32 sel w0 w1 = .ok (tc, int) →
    -8192 ≤ tc.toInt ∧ tc.toInt ≤ 8191 ∧ -2048 ≤ int.toInt ∧ int.toInt ≤ 2047 ∧
    (∀ i, 13 ≤ i → i ≤ 15 → tc.getLsbD i = tc.getLsbD 13) ∧
    (∀ i, 11 ≤ i → i ≤ 15 → int.getLsbD i = int.getLsbD 11)) ∧
  (∀ c : Int, -8192 ≤ c → c ≤ 8191 → ∃ w, dec16 w = .ok (BitVec.ofInt 16 c)) ∧
  (∀ (sel : CflagSel) (c d : Int), -8192 ≤ c → c ≤ 8191 → -2048 ≤ d → d ≤ 2047 →
    ∃ w0 w1, dec32 sel w0 w1 = .ok (BitVec.ofInt 16 c, BitVec.ofInt 16 d))

/-- 40_frame_decoder R83 and 30_encoding R61: encoding a count into the bit layout and decoding it gives it back. -/
def Obligations.CountRoundTrip : Prop :=
  (∀ (c : Count) (r : BitVec 1), isTcCount c = true →
    (xtc (encodeTcWord c r 0#1)).toNat = (c.toInt % 16384).toNat ∧ dec16 (encodeTcWord c r 0#1) = .ok c) ∧
  (∀ (sel : CflagSel) (c d : Count) (r f : BitVec 1) (low : BitVec 4), isTcCount c = true → isIntCount d = true →
    (xint (encodeIntWord d low)).toNat = (d.toInt % 4096).toNat ∧
    (compositeFlag sel (encodeTcWord c r f) (encodeIntWord d low) = false →
      dec32 sel (encodeTcWord c r f) (encodeIntWord d low) = .ok (c, d)))

/-- 40_frame_decoder R77: `DEC16`, its corner cases and its worked example. -/
def Obligations.Dec16Outcomes : Prop :=
  (∀ b0 b1 : Byte, (word b0 b1).getLsbD 0 = true → dec16 (word b0 b1) = .error .genericFault) ∧
  (∀ b0 b1 : Byte, (word b0 b1).getLsbD 0 = false → dec16 (word b0 b1) = .ok (sext14 (xtc (word b0 b1)))) ∧
  (∀ w : Word16, dec16 (w ^^^ 0x0002#16) = dec16 w) ∧
  (∀ w w' : Word16, w.getLsbD 0 = true → w'.getLsbD 0 = true → dec16 w = dec16 w') ∧
  dec16 0x0000#16 = .ok 0#16 ∧ dec16 0xFFFE#16 = .ok (BitVec.ofInt 16 (-1)) ∧
  dec16 0xFFFF#16 = .error .genericFault ∧ dec16 0x7FFC#16 = .ok 8191#16 ∧
  dec16 0x8000#16 = .ok (BitVec.ofInt 16 (-8192)) ∧
  word 0x00#8 0x28#8 = 0x0028#16 ∧ xtc 0x0028#16 = 10#14 ∧ dec16 0x0028#16 = .ok 10#16

/-- 60_exceptions R149: the truth table of `resolve32`, and the priority of missing-thermocouple over all. -/
def Obligations.FaultPriority : Prop :=
  (∀ oc scg scv, resolve32 ⟨false, oc, scg, scv⟩ = none) ∧
  (∀ scg scv, resolve32 ⟨true, true, scg, scv⟩ = some .missingTc) ∧
  (∀ scv, resolve32 ⟨true, false, true, scv⟩ = some .gndShort) ∧
  resolve32 ⟨true, false, false, true⟩ = some .vccShort ∧
  resolve32 ⟨true, false, false, false⟩ = some .genericFault ∧
  (∀ w0 w1 : Word16, (splitFaultBits .w1Bit0 w0 w1).cflag = (splitFaultBits .w1Bit0 w0 w1).oc)

/-- 40_frame_decoder R80: what DEC32 comes to under the default CFLAG_SEL; the other arms are dead there and live in
`resolve32` all the same. -/
def Obligations.DefaultFlagArms : Prop :=
  (∀ w0 w1 : Word16, dec32 .w1Bit0 w0 w1 =
    if w1.getLsbD 0 then .error .missingTc else .ok (sext14 (xtc w0), sext12 (xint w1))) ∧
  resolve32 ⟨true, false, true, false⟩ = some .gndShort ∧ resolve32 ⟨true, false, false, true⟩ = some .vccShort ∧
  resolve32 ⟨true, false, false, false⟩ = some .genericFault ∧
  (∀ (i : Instr) (s t : State), isOp32 i = true → s.config.cflagSel = .w1Bit0 → exec i s = .next t →
    t.out.status = some 0#3 ∨ t.out.status = some 2#3)

/-- 40_frame_decoder R81: what DEC32 comes to under the alternative CFLAG_SEL, and DOC0's example under it. -/
def Obligations.AlternativeFlagArms : Prop :=
  (∀ w0 w1 : Word16, dec32 .w0Bit0 w0 w1 =
    if w0.getLsbD 0 = false then .ok (sext14 (xtc w0), sext12 (xint w1))
    else if w1.getLsbD 0 then .error .missingTc
    else if w1.getLsbD 1 then .error .gndShort
    else if w1.getLsbD 2 then .error .vccShort
    else .error .genericFault) ∧
  dec32 .w0Bit0 (word 0x00#8 0x00#8) (word 0x00#8 0x01#8) = .ok (0#16, 0#16) ∧
  dec32 .w1Bit0 (word 0x00#8 0x00#8) (word 0x00#8 0x01#8) = .error .missingTc

/-- 40_frame_decoder R84: the bits that never change an outcome. -/
def Obligations.IgnoredBits : Prop :=
  (∀ w : Word16, dec16 (w ^^^ 0x0002#16) = dec16 w) ∧
  (∀ (sel : CflagSel) (w0 w1 : Word16), dec32 sel (w0 ^^^ 0x0002#16) w1 = dec32 sel w0 w1 ∧
    dec32 sel w0 (w1 ^^^ 0x0008#16) = dec32 sel w0 w1) ∧
  (∀ w0 w1 m : Word16, dec32 .w1Bit0 (w0 ^^^ 0x0001#16) w1 = dec32 .w1Bit0 w0 w1 ∧
    dec32 .w1Bit0 w0 (w1 ^^^ (m &&& 0x0006#16)) = dec32 .w1Bit0 w0 w1) ∧
  (∀ w0 w1 m : Word16, w0.getLsbD 0 = false →
    dec32 .w0Bit0 w0 (w1 ^^^ (m &&& 0x0007#16)) = dec32 .w0Bit0 w0 w1) ∧
  (∀ w m : Word16, w.getLsbD 0 = true → dec16 (w ^^^ (m &&& 0xFFFC#16)) = dec16 w) ∧
  (∀ (sel : CflagSel) (w0 w1 m0 m1 : Word16), compositeFlag sel w0 w1 = true →
    dec32 sel (w0 ^^^ (m0 &&& 0xFFFC#16)) (w1 ^^^ (m1 &&& 0xFFF0#16)) = dec32 sel w0 w1)

/-- The outcome patterns (30_encoding R57, R58, R62) and the decode procedures (40_frame_decoder R77, R78) agree. That
a frame row is executed, as the raw operation of its width on that frame, is the model's choice (log 17). -/
def Obligations.FramePatternsAgreeWithDecoder : Prop :=
  (∀ (s : State) (x : BitVec 2), exec (decodeFrame16 (frameWord0 s)) s = exec (.tcraw x) s) ∧
  (∀ (s : State) (x : BitVec 2),
    exec (decodeFrame32 s.config.cflagSel (frameWord0 s) (frameWord1 s)) s = exec (.allraw x) s)

/-! ## The frame outcome rows -/

/-- The two classes of 2-byte frames (30_encoding R57), for every field and ignored bit, in every state. That a row is
executed and its outcome delivered on the ports as TCRAW delivers it is the model's choice (log 17). -/
def Obligations.Frame16Rows : Prop :=
  (∀ (t : BitVec 14) (r : BitVec 1) (s : State),
    decodeFrame16 (t ++ r ++ 0b0#1) = .f16Ok t r ∧
    exec (.f16Ok t r) s =
      .next (setOut s (portsHolding 0#3 (some (countOfField (t.setWidth 16) 14 4 2)) none none none none))) ∧
  (∀ (x : BitVec 14) (r : BitVec 1) (s : State),
    decodeFrame16 (x ++ r ++ 0b1#1) = .f16GenericFault x r ∧
    exec (.f16GenericFault x r) s = .next (setOut s (portsOfFault 1#3)))

/-- The two classes of 4-byte frames under CFLAG_SEL = W1_BIT0 (30_encoding R58). That a row is executed and its
outcome delivered on the ports as ALLRAW delivers it is the model's choice (log 17). -/
def Obligations.Frame32Rows : Prop :=
  (∀ (t : BitVec 14) (r0 : BitVec 2) (i : BitVec 12) (r1 : BitVec 1) (x : BitVec 2) (s : State),
    decodeFrame32 .w1Bit0 (t ++ r0) (i ++ r1 ++ x ++ 0b0#1) = .f32Ok t r0 i r1 x ∧
    exec (.f32Ok t r0 i r1 x) s =
      .next (setOut s (portsHolding 0#3 (some (countOfField (t.setWidth 16) 14 4 2))
                              (some (countOfField (i.setWidth 16) 12 16 4)) none none none))) ∧
  (∀ (x0 : BitVec 14) (r0 : BitVec 2) (x1 : BitVec 12) (r1 : BitVec 1) (x2 : BitVec 2) (s : State),
    decodeFrame32 .w1Bit0 (x0 ++ r0) (x1 ++ r1 ++ x2 ++ 0b1#1) = .f32MissingTc x0 r0 x1 r1 x2 ∧
    exec (.f32MissingTc x0 r0 x1 r1 x2) s = .next (setOut s (portsOfFault 2#3))) ∧
  (∀ w0 w1 : Word16, dec32 .w1Bit0 w0 w1 ≠ .error .gndShort ∧ dec32 .w1Bit0 w0 w1 ≠ .error .vccShort ∧
    dec32 .w1Bit0 w0 w1 ≠ .error .genericFault)

/-- The five classes of 4-byte frames under CFLAG_SEL = W0_BIT0 (30_encoding R62). That a row is executed and its
outcome delivered on the ports as ALLRAW delivers it is the model's choice (log 17). -/
def Obligations.Frame32W0Rows : Prop :=
  (∀ (t : BitVec 14) (r0 : BitVec 1) (i : BitVec 12) (r1 : BitVec 1) (x : BitVec 3) (s : State),
    decodeFrame32 .w0Bit0 (t ++ r0 ++ 0b0#1) (i ++ r1 ++ x) = .f32w0Ok t r0 i r1 x ∧
    exec (.f32w0Ok t r0 i r1 x) s =
      .next (setOut s (portsHolding 0#3 (some (countOfField (t.setWidth 16) 14 4 2))
                              (some (countOfField (i.setWidth 16) 12 16 4)) none none none))) ∧
  (∀ (x0 : BitVec 14) (r0 : BitVec 1) (x1 : BitVec 12) (r1 : BitVec 1) (x2 : BitVec 2) (s : State),
    decodeFrame32 .w0Bit0 (x0 ++ r0 ++ 0b1#1) (x1 ++ r1 ++ x2 ++ 0b1#1) = .f32w0MissingTc x0 r0 x1 r1 x2 ∧
    exec (.f32w0MissingTc x0 r0 x1 r1 x2) s = .next (setOut s (portsOfFault 2#3))) ∧
  (∀ (x0 : BitVec 14) (r0 : BitVec 1) (x1 : BitVec 12) (r1 x2 : BitVec 1) (s : State),
    decodeFrame32 .w0Bit0 (x0 ++ r0 ++ 0b1#1) (x1 ++ r1 ++ x2 ++ 0b10#2) = .f32w0GndShort x0 r0 x1 r1 x2 ∧
    exec (.f32w0GndShort x0 r0 x1 r1 x2) s = .next (setOut s (portsOfFault 3#3))) ∧
  (∀ (x0 : BitVec 14) (r0 : BitVec 1) (x1 : BitVec 12) (r1 : BitVec 1) (s : State),
    decodeFrame32 .w0Bit0 (x0 ++ r0 ++ 0b1#1) (x1 ++ r1 ++ 0b100#3) = .f32w0VccShort x0 r0 x1 r1 ∧
    exec (.f32w0VccShort x0 r0 x1 r1) s = .next (setOut s (portsOfFault 4#3))) ∧
  (∀ (x0 : BitVec 14) (r0 : BitVec 1) (x1 : BitVec 12) (r1 : BitVec 1) (s : State),
    decodeFrame32 .w0Bit0 (x0 ++ r0 ++ 0b1#1) (x1 ++ r1 ++ 0b000#3) = .f32w0GenericFault x0 r0 x1 r1 ∧
    exec (.f32w0GenericFault x0 r0 x1 r1) s = .next (setOut s (portsOfFault 1#3)))

/-! ## The block operations: their results -/

/-- 43_block_operations R126: `TCRAW`. -/
def Obligations.TcrawResult : Prop :=
  (∀ (x : BitVec 2) (s : State),
    decodeCmd (x ++ 0b00#2) = .tcraw x ∧
    ((frameWord0 s).getLsbD 0 = false → exec (.tcraw x) s =
      .next (setOut s (portsHolding 0#3 (some (sext14 (xtc (frameWord0 s)))) none none none none))) ∧
    ((frameWord0 s).getLsbD 0 = true → exec (.tcraw x) s = .next (setOut s (portsOfFault 1#3)))) ∧
  (∀ (x : BitVec 2) (s : State), byteAt s.frame 0 = some 0x00#8 → byteAt s.frame 1 = some 0x28#8 →
    exec (.tcraw x) s = .next (setOut s (portsHolding 0#3 (some 10#16) none none none none)))

/-- 43_block_operations R127: `TCCNV.C`, its example, and the range and step of its results. -/
def Obligations.TccnvCResult : Prop :=
  decodeCmd 0b0010#4 = .tccnvC ∧
  (∀ s : State,
    ((frameWord0 s).getLsbD 0 = false → exec .tccnvC s =
      .next (setOut s (portsHolding 0#3 none none
        (some (unitC (cvtcTc s.config.numerics (sext14 (xtc (frameWord0 s)))))) none none))) ∧
    ((frameWord0 s).getLsbD 0 = true → exec .tccnvC s = .next (setOut s (portsOfFault 1#3)))) ∧
  (∀ s : State, s.config.numerics = .binary32 → byteAt s.frame 0 = some 0x00#8 → byteAt s.frame 1 = some 0x28#8 →
    exec .tccnvC s = .next (setOut s (portsHolding 0#3 none none (some 0x40200000#32) none none))) ∧
  (∀ c : Count, isTcCount c = true → ∃ n : ℤ, f32Value (unitC (cvtcTc .binary32 c)) = (n : ℚ) / 4 ∧
    -2048 ≤ (n : ℚ) / 4 ∧ (n : ℚ) / 4 ≤ 8191 / 4)

/-- 43_block_operations R128: `TCCNV.F`, and its two examples. -/
def Obligations.TccnvFResult : Prop :=
  decodeCmd 0b0110#4 = .tccnvF ∧
  (∀ s : State,
    ((frameWord0 s).getLsbD 0 = false → exec .tccnvF s =
      .next (setOut s (portsHolding 0#3 none none
        (some (unitF s.config.numerics (cvtcTc s.config.numerics (sext14 (xtc (frameWord0 s)))))) none none))) ∧
    ((frameWord0 s).getLsbD 0 = true → exec .tccnvF s = .next (setOut s (portsOfFault 1#3)))) ∧
  (∀ s : State, s.config.numerics = .binary32 → byteAt s.frame 0 = some 0x00#8 → byteAt s.frame 1 = some 0xA0#8 →
    exec .tccnvF s = .next (setOut s (portsHolding 0#3 none none (some 0x42480000#32) none none))) ∧
  (∀ s : State, s.config.numerics = .binary32 → byteAt s.frame 0 = some 0x00#8 → byteAt s.frame 1 = some 0x28#8 →
    exec .tccnvF s = .next (setOut s (portsHolding 0#3 none none (some 0x42120000#32) none none)))

/-- 43_block_operations R129: `TCCNV.K`, and its example. -/
def Obligations.TccnvKResult : Prop :=
  decodeCmd 0b1010#4 = .tccnvK ∧
  (∀ s : State,
    ((frameWord0 s).getLsbD 0 = false → exec .tccnvK s =
      .next (setOut s (portsHolding 0#3 none none
        (some (unitK s.config.numerics (cvtcTc s.config.numerics (sext14 (xtc (frameWord0 s)))))) none none))) ∧
    ((frameWord0 s).getLsbD 0 = true → exec .tccnvK s = .next (setOut s (portsOfFault 1#3)))) ∧
  (∀ s : State, s.config.numerics = .binary32 → byteAt s.frame 0 = some 0x00#8 → byteAt s.frame 1 = some 0xA0#8 →
    exec .tccnvK s = .next (setOut s (portsHolding 0#3 none none (some 0x438D9333#32) none none)))

/-- 43_block_operations R130: `ALLRAW`. -/
def Obligations.AllrawResult : Prop :=
  (∀ (x : BitVec 2) (s : State),
    decodeCmd (x ++ 0b01#2) = .allraw x ∧
    (resolve32 (splitFaultBits s.config.cflagSel (frameWord0 s) (frameWord1 s)) = none → exec (.allraw x) s =
      .next (setOut s (portsHolding 0#3 (some (sext14 (xtc (frameWord0 s))))
                              (some (sext12 (xint (frameWord1 s)))) none none none))) ∧
    (∀ k, resolve32 (splitFaultBits s.config.cflagSel (frameWord0 s) (frameWord1 s)) = some k →
      exec (.allraw x) s = .next (setOut s (portsOfFault (faultCode k))) ∧
      (s.config.cflagSel = .w1Bit0 → k = .missingTc))) ∧
  (∀ (x : BitVec 2) (s : State), byteAt s.frame 0 = some 0x01#8 → byteAt s.frame 1 = some 0x90#8 →
    byteAt s.frame 2 = some 0x19#8 → byteAt s.frame 3 = some 0x00#8 →
    exec (.allraw x) s = .next (setOut s (portsHolding 0#3 (some 100#16) (some 400#16) none none none))) ∧
  (∀ (x : BitVec 2) (s : State), s.config.cflagSel = .w1Bit0 → byteAt s.frame 0 = some 0x00#8 →
    byteAt s.frame 1 = some 0x00#8 → byteAt s.frame 2 = some 0x00#8 → byteAt s.frame 3 = some 0x01#8 →
    exec (.allraw x) s = .next (setOut s (portsOfFault 2#3)))

/-- 43_block_operations R131: `ALLCNV.C`, and its example. -/
def Obligations.AllcnvCResult : Prop :=
  decodeCmd 0b0011#4 = .allcnvC ∧
  (∀ s : State,
    (resolve32 (splitFaultBits s.config.cflagSel (frameWord0 s) (frameWord1 s)) = none → exec .allcnvC s =
      .next (setOut s (portsHolding 0#3 none none
        (some (unitC (cvtcTc s.config.numerics (sext14 (xtc (frameWord0 s))))))
        (some (unitC (cvtcInt s.config.numerics (sext12 (xint (frameWord1 s)))))) (some 0#2)))) ∧
    (∀ k, resolve32 (splitFaultBits s.config.cflagSel (frameWord0 s) (frameWord1 s)) = some k →
      exec .allcnvC s = .next (setOut s (portsOfFault (faultCode k))))) ∧
  (∀ s : State, s.config.numerics = .binary32 → byteAt s.frame 0 = some 0x01#8 → byteAt s.frame 1 = some 0x90#8 →
    byteAt s.frame 2 = some 0x19#8 → byteAt s.frame 3 = some 0x00#8 →
    exec .allcnvC s =
      .next (setOut s (portsHolding 0#3 none none (some 0x41C80000#32) (some 0x41C80000#32) (some 0#2))))

/-- 43_block_operations R132: `ALLCNV.F`, and its example. -/
def Obligations.AllcnvFResult : Prop :=
  decodeCmd 0b0111#4 = .allcnvF ∧
  (∀ s : State,
    (resolve32 (splitFaultBits s.config.cflagSel (frameWord0 s) (frameWord1 s)) = none → exec .allcnvF s =
      .next (setOut s (portsHolding 0#3 none none
        (some (unitF s.config.numerics (cvtcTc s.config.numerics (sext14 (xtc (frameWord0 s))))))
        (some (unitF s.config.numerics (cvtcInt s.config.numerics (sext12 (xint (frameWord1 s)))))) (some 1#2)))) ∧
    (∀ k, resolve32 (splitFaultBits s.config.cflagSel (frameWord0 s) (frameWord1 s)) = some k →
      exec .allcnvF s = .next (setOut s (portsOfFault (faultCode k))))) ∧
  (∀ s : State, s.config.numerics = .binary32 → byteAt s.frame 0 = some 0x01#8 → byteAt s.frame 1 = some 0x90#8 →
    byteAt s.frame 2 = some 0x19#8 → byteAt s.frame 3 = some 0x00#8 →
    exec .allcnvF s =
      .next (setOut s (portsHolding 0#3 none none (some 0x429A0000#32) (some 0x429A0000#32) (some 1#2))))

/-- 43_block_operations R133: `ALLCNV.K`, and its example. -/
def Obligations.AllcnvKResult : Prop :=
  decodeCmd 0b1011#4 = .allcnvK ∧
  (∀ s : State,
    (resolve32 (splitFaultBits s.config.cflagSel (frameWord0 s) (frameWord1 s)) = none → exec .allcnvK s =
      .next (setOut s (portsHolding 0#3 none none
        (some (unitK s.config.numerics (cvtcTc s.config.numerics (sext14 (xtc (frameWord0 s))))))
        (some (unitK s.config.numerics (cvtcInt s.config.numerics (sext12 (xint (frameWord1 s)))))) (some 2#2)))) ∧
    (∀ k, resolve32 (splitFaultBits s.config.cflagSel (frameWord0 s) (frameWord1 s)) = some k →
      exec .allcnvK s = .next (setOut s (portsOfFault (faultCode k))))) ∧
  (∀ s : State, s.config.numerics = .binary32 → byteAt s.frame 0 = some 0x01#8 → byteAt s.frame 1 = some 0x90#8 →
    byteAt s.frame 2 = some 0x19#8 → byteAt s.frame 3 = some 0x00#8 →
    exec .allcnvK s =
      .next (setOut s (portsHolding 0#3 none none (some 0x43951333#32) (some 0x43951333#32) (some 2#2))))

/-! ## The block operations: faults, frames, and what they depend on -/

/-- 60_exceptions R152: taking a fault writes STATUS and VALID and nothing else, and no later stage runs. -/
def Obligations.TakingAFault : Prop :=
  (∀ (i : Instr) (s : State), isOp16 i = true → (frameWord0 s).getLsbD 0 = true →
    exec i s = .next (setOut s (portsOfFault 1#3))) ∧
  (∀ (i : Instr) (s : State) (k : FaultKind), isOp32 i = true →
    resolve32 (splitFaultBits s.config.cflagSel (frameWord0 s) (frameWord1 s)) = some k →
    exec i s = .next (setOut s (portsOfFault (faultCode k))))

/-- 60_exceptions R146: every fault's code, the operations that report it, and its exact cause. -/
def Obligations.FaultCauses : Prop :=
  (∀ (i : Instr) (s t : State), isOp16 i = true → exec i s = .next t →
    (t.out.status = some 1#3 ↔ (frameWord0 s).getLsbD 0 = true) ∧
    t.out.status ≠ some 2#3 ∧ t.out.status ≠ some 3#3 ∧ t.out.status ≠ some 4#3) ∧
  (∀ (i : Instr) (s t : State), isOp32 i = true → exec i s = .next t →
    (t.out.status = some 1#3 ↔ compositeFlag s.config.cflagSel (frameWord0 s) (frameWord1 s) = true ∧
      (frameWord1 s).getLsbD 0 = false ∧ (frameWord1 s).getLsbD 1 = false ∧ (frameWord1 s).getLsbD 2 = false) ∧
    (t.out.status = some 2#3 ↔ compositeFlag s.config.cflagSel (frameWord0 s) (frameWord1 s) = true ∧
      (frameWord1 s).getLsbD 0 = true) ∧
    (t.out.status = some 3#3 ↔ compositeFlag s.config.cflagSel (frameWord0 s) (frameWord1 s) = true ∧
      (frameWord1 s).getLsbD 0 = false ∧ (frameWord1 s).getLsbD 1 = true) ∧
    (t.out.status = some 4#3 ↔ compositeFlag s.config.cflagSel (frameWord0 s) (frameWord1 s) = true ∧
      (frameWord1 s).getLsbD 0 = false ∧ (frameWord1 s).getLsbD 1 = false ∧ (frameWord1 s).getLsbD 2 = true))

/-- 10_state R20, R26: after any operation VALID is 1 and the ports hold one of the table's patterns, with counts in
range. -/
def Obligations.PortsAfterAnOperation : Prop :=
  ∀ (i : Instr) (s t : State), exec i s = .next t → t.out.valid = true ∧ outputsOk t.out = true

/-- The frame of every instruction: it drives the output ports and changes nothing else; every byte of the frame
buffer reads as before (20_memory R34, R37). -/
def Obligations.InstructionFrame : Prop :=
  ∀ (i : Instr) (s t : State), exec i s = .next t →
    t.config = s.config ∧ t.start = s.start ∧ t.cmd = s.cmd ∧ t.draws = s.draws ∧ t.env = s.env ∧
    ∀ a, byteAt t.frame a = byteAt s.frame a

/-- 10_state R10: the result of an operation is a function of the frame and the parameters, and of nothing else; an
operation does the same whatever operation ran before it (70_reset R171, 60_exceptions R154). -/
def Obligations.ResultDependsOnInputsOnly : Prop :=
  (∀ (i : Instr) (s s' t t' : State), s.config = s'.config → framePort s = framePort s' →
    exec i s = .next t → exec i s' = .next t' → t.out = t'.out) ∧
  (∀ (i j : Instr) (s t : State), exec i s = .next t → exec j t = exec j s)

/-- 10_state R13: in 16-bit mode FRAME[15:0] is ignored. -/
def Obligations.NarrowModeIgnoresLowHalf : Prop :=
  ∀ (i : Instr) (s s' t t' : State), isOp16 i = true → s.config = s'.config →
    (framePort s).extractLsb' 16 16 = (framePort s').extractLsb' 16 16 →
    exec i s = .next t → exec i s' = .next t' → t.out = t'.out

/-! ## The Unit Converter -/

/-- 41_unit_converter R94, R96 (and R95's formula): the units, with their corner cases and examples under the default
NUMERICS. -/
def Obligations.UnitFormulas : Prop :=
  (∀ t : Temp, unitC t = t) ∧
  (∀ n t, unitK n t = fadd32 n t (constKAdd n)) ∧ constKAdd .binary32 = 0x43889333#32 ∧
  unitK .binary32 0x00000000#32 = 0x43889333#32 ∧ f32Value 0x43889333#32 = 273149993896484375 / 1000000000000000 ∧
  f32Value (unitK .binary32 0xC5000000#32) = -(17748499755859375 / 10000000000000) ∧
  unitK .binary32 0x41200000#32 = 0x438D9333#32 ∧
  (∀ t, unitF .binary32 t = fadd32 .binary32 (fmul32 .binary32 t 0x3FE66666#32) 0x42000000#32) ∧
  unitF .binary32 0x00000000#32 = 0x42000000#32 ∧ unitF .binary32 0xC2200000#32 = 0xC2200000#32 ∧
  unitF .binary32 0x41200000#32 = 0x42480000#32 ∧ fmul32 .binary32 0x41200000#32 0x3FE66666#32 = 0x41900000#32

/-- 41_unit_converter R92, R93, R101: the Celsius stage is exact under the default NUMERICS. -/
def Obligations.CelsiusStageIsExact : Prop :=
  (∀ c : Count, isTcCount c = true →
    isFinite (cvtcTc .binary32 c) = true ∧ f32Value (cvtcTc .binary32 c) = (c.toInt : ℚ) / 4) ∧
  (∀ c : Count, isIntCount c = true →
    isFinite (cvtcInt .binary32 c) = true ∧ f32Value (cvtcInt .binary32 c) = (c.toInt : ℚ) / 16) ∧
  (∀ (n : NumericsSel) (c : Count), cvtcTc n c = fmul32 n (i16ToF32 n c) 0x3E800000#32 ∧
    cvtcInt n c = fmul32 n (i16ToF32 n c) 0x3D800000#32) ∧
  cvtcTc .binary32 0#16 = 0x00000000#32 ∧ cvtcTc .binary32 40#16 = 0x41200000#32 ∧
  cvtcInt .binary32 400#16 = 0x41C80000#32

/-- 41_unit_converter R99: in the default NUMERICS `i16_to_f32` is exact for every 16-bit integer, the constants are
the f32 nearest to 1.8, 32 and 273.15, and the scales (R100) are exact. -/
def Obligations.DefaultIntegersAndConstants : Prop :=
  (∀ c : Count, isFinite (i16ToF32 .binary32 c) = true ∧ f32Value (i16ToF32 .binary32 c) = (c.toInt : ℚ)) ∧
  IsNearestEven (9 / 5) (constFMul .binary32) ∧ f32Value (constFAdd .binary32) = 32 ∧
  IsNearestEven (5463 / 20) (constKAdd .binary32) ∧
  Config.scaleTc = 0x3E800000#32 ∧ f32Value Config.scaleTc = 1 / 4 ∧
  Config.scaleInt = 0x3D800000#32 ∧ f32Value Config.scaleInt = 1 / 16

/-- 41_unit_converter R99: `fmul32` of the default NUMERICS rounds the exact product to nearest, ties to even. -/
def Obligations.MultiplicationRoundsToNearestEven : Prop :=
  ∀ a b : Temp, isFinite a = true → isFinite b = true → isFinite (fmul32 .binary32 a b) = true →
    IsNearestEven (f32Value a * f32Value b) (fmul32 .binary32 a b)

/-- 41_unit_converter R99: `fadd32` of the default NUMERICS rounds the exact sum to nearest, ties to even. -/
def Obligations.AdditionRoundsToNearestEven : Prop :=
  ∀ a b : Temp, isFinite a = true → isFinite b = true → isFinite (fadd32 .binary32 a b) = true →
    IsNearestEven (f32Value a + f32Value b) (fadd32 .binary32 a b)

/-- 41_unit_converter R102: no special values arise under the default NUMERICS, in the product of UNIT.F neither. -/
def Obligations.NoSpecialValues : Prop :=
  ∀ (c : Count) (t : Temp),
    (isTcCount c = true ∧ t = cvtcTc .binary32 c) ∨ (isIntCount c = true ∧ t = cvtcInt .binary32 c) →
    isFinite t = true ∧ |f32Value t| < 3718 ∧
    isFinite (fmul32 .binary32 t (constFMul .binary32)) = true ∧
    isFinite (unitF .binary32 t) = true ∧ |f32Value (unitF .binary32 t)| < 3718 ∧
    isFinite (unitK .binary32 t) = true ∧ |f32Value (unitK .binary32 t)| < 3718

/-- 41_unit_converter R103: zero is +0.0 at count 0 in Celsius and nowhere else; -0.0 never appears; the exact
Fahrenheit and Kelvin values are zero at no multiple of 0.0625, and the results have magnitude 0.05 or more. -/
def Obligations.ZeroResults : Prop :=
  i16ToF32 .binary32 0#16 = 0x00000000#32 ∧ cvtcTc .binary32 0#16 = 0x00000000#32 ∧
  cvtcInt .binary32 0#16 = 0x00000000#32 ∧
  (∀ (c : Count) (t : Temp),
    (isTcCount c = true ∧ t = cvtcTc .binary32 c) ∨ (isIntCount c = true ∧ t = cvtcInt .binary32 c) →
    (unitC t ≠ 0x80000000#32 ∧ (c ≠ 0#16 → f32Value (unitC t) ≠ 0)) ∧
    1 / 20 ≤ |f32Value (unitF .binary32 t)| ∧ 1 / 20 ≤ |f32Value (unitK .binary32 t)|) ∧
  (∀ x : ℚ, (9 * x / 5 + 32 = 0 ↔ x = -160 / 9) ∧ (x + 5463 / 20 = 0 ↔ x = -5463 / 20)) ∧
  (∀ n : ℤ, (n : ℚ) / 16 ≠ -160 / 9 ∧ (n : ℚ) / 16 ≠ -5463 / 20)

/-- 41_unit_converter R104: the largest distance of the default NUMERICS from the real values over every reachable
count, that it is reached, and DOC0's vector for count 40. -/
def Obligations.ConversionAccuracy : Prop :=
  (∀ c : Count, isTcCount c = true → f32Value (unitC (cvtcTc .binary32 c)) = (c.toInt : ℚ) / 4 ∧
    |f32Value (unitF .binary32 (cvtcTc .binary32 c)) - (9 * (c.toInt : ℚ) / 20 + 32)| ≤ 1953125 / 10000000000 ∧
    |f32Value (unitK .binary32 (cvtcTc .binary32 c)) - ((c.toInt : ℚ) / 4 + 5463 / 20)| ≤ 9765625 / 100000000000) ∧
  (∀ c : Count, isIntCount c = true → f32Value (unitC (cvtcInt .binary32 c)) = (c.toInt : ℚ) / 16 ∧
    |f32Value (unitF .binary32 (cvtcInt .binary32 c)) - (9 * (c.toInt : ℚ) / 80 + 32)| ≤ 1953125 / 10000000000 ∧
    |f32Value (unitK .binary32 (cvtcInt .binary32 c)) - ((c.toInt : ℚ) / 16 + 5463 / 20)| ≤ 9765625 / 100000000000) ∧
  (∃ c : Count, isTcCount c = true ∧
    |f32Value (unitF .binary32 (cvtcTc .binary32 c)) - (9 * (c.toInt : ℚ) / 20 + 32)| = 1953125 / 10000000000) ∧
  (∃ c : Count, isTcCount c = true ∧
    |f32Value (unitK .binary32 (cvtcTc .binary32 c)) - ((c.toInt : ℚ) / 4 + 5463 / 20)| = 9765625 / 100000000000) ∧
  f32Value (unitC (cvtcTc .binary32 40#16)) = 10 ∧ f32Value (unitF .binary32 (cvtcTc .binary32 40#16)) = 50 ∧
  |f32Value (unitK .binary32 (cvtcTc .binary32 40#16)) - 5663 / 20| ≤ 1 / 10000

/-! ## The step -/

/-- 70_reset R176 with 30_encoding R54: raising START runs the operation CMD names, once. What the step adds around it
is the model's: START goes down (log 10) and the next free value is taken (log 8). -/
def Obligations.StepRunsTheCommand : Prop :=
  ∀ (s : State) (b : Byte) (i : Instr), s.start = true → b = 0#4 ++ s.cmd →
    decode s.config.cflagSel .command [b] = .instr i →
    (∀ t, exec i s = .next t → step s = .next { t with start := false, draws := t.draws + 1 }) ∧
    (∀ f, exec i s = .fault f → step s = .fault f) ∧
    (∀ r, exec i s = .refused r → step s = .refused r)

/-- A step on a raw command runs the frame row the bytes on FRAME decode to (30_encoding R60: the rows have no CMD of
their own). That a row is executed (log 17), that START goes down (log 10) and that the free-value counter moves on
(log 8) are the model's choices. -/
def Obligations.StepRunsTheFrameRow : Prop :=
  (∀ (s : State) (x : BitVec 2) (b0 b1 : Byte) (i : Instr), s.start = true → s.cmd = x ++ 0b00#2 →
    byteAt s.frame 0 = some b0 → byteAt s.frame 1 = some b1 →
    decode s.config.cflagSel .frame16 [b0, b1] = .instr i →
    ∃ t, exec i s = .next t ∧ step s = .next { t with start := false, draws := t.draws + 1 }) ∧
  (∀ (s : State) (x : BitVec 2) (b0 b1 b2 b3 : Byte) (i : Instr), s.start = true → s.cmd = x ++ 0b01#2 →
    byteAt s.frame 0 = some b0 → byteAt s.frame 1 = some b1 → byteAt s.frame 2 = some b2 → byteAt s.frame 3 = some b3 →
    decode s.config.cflagSel .frame32 [b0, b1, b2, b3] = .instr i →
    ∃ t, exec i s = .next t ∧ step s = .next { t with start := false, draws := t.draws + 1 })

/-- 60_exceptions R155: the block never starts an operation on its own; with nothing to do and no reset to come nothing
happens. -/
def Obligations.NothingStartsByItself : Prop :=
  (∀ s : State, atRest s → s.env.todo = [] → step s = .next s) ∧
  (∀ s t : State, s.start = false → step s = .next t → t.start = true →
    (∃ op, s.env.phase = .starting op) ∨
    (s.env.phase = .idle ∧ ∃ cmd bytes rest, s.env.todo = .operate cmd bytes :: rest))

/-- 10_state R12: CFLAG_SEL (and NUMERICS) are fixed when the block is built: no step changes them. -/
def Obligations.ConfigurationIsFixed : Prop :=
  ∀ s t : State, step s = .next t → t.config = s.config

/-- 10_state R11: the output ports keep the last operation's result until the next operation or reset. -/
def Obligations.OutputsAreRetained : Prop :=
  ∀ s t : State, step s = .next t → s.start = false → (∀ rest, s.env.resets ≠ 0 :: rest) →
    (∀ rest, s.env.phase = .idle → s.env.todo ≠ .reset :: rest) → t.out = s.out

/-- 20_memory R37: a byte enters the frame buffer only through a successful byte exchange, or when the host places a
frame for a bare operation. -/
def Obligations.OnlyTheExchangeWritesTheBuffer : Prop :=
  ∀ (s t : State) (a : Nat) (b : Byte), step s = .next t → byteAt t.frame a = some b →
    byteAt s.frame a = some b ∨
    (∃ c b0 b1 b2 b3, s.start = false ∧ s.env.phase = .exchanging c 0 ∧
      exchangeAnswer c.exchange = some (.received b0 b1 b2 b3) ∧
      ((a = 0 ∧ b = b0) ∨ (a = 1 ∧ b = b1) ∨
        (apiLen c.op = .four ∧ ((a = 2 ∧ b = b2) ∨ (a = 3 ∧ b = b3))))) ∨
    (∃ cmd bytes rest, s.start = false ∧ s.env.phase = .idle ∧ s.env.todo = .operate cmd bytes :: rest ∧
      byteAt (loadFrame bytes) a = some b)

/-! ## Reset and the host's other actions -/

/-- 10_state R28: the state after reset; a reset does not affect the build-time parameters. -/
def Obligations.ResetState : Prop :=
  State.reset.out.valid = false ∧ State.reset.out.status = none ∧ State.reset.out.tcCount = none ∧
  State.reset.out.intCount = none ∧ State.reset.out.tcTemp = none ∧ State.reset.out.intTemp = none ∧
  State.reset.out.unitTag = none ∧ State.reset.start = false ∧ ∀ s : State, (resetBlock s).config = s.config

/-- 70_reset R170: reset at any time between operations, by the host or from outside wherever the host's call stands,
clears VALID, leaves no port a value, and does not touch the parameters or anything else; until it is due it changes
nothing; and the operation after it does what it does without it (R171). How a reset comes is the model's choice
(log 27). -/
def Obligations.ResetActionEffect : Prop :=
  (∀ (s : State) (rest : List HostAction), atRest s → s.env.todo = .reset :: rest →
    step s = .next { s with
      out := { valid := false, status := none, tcCount := none, intCount := none, tcTemp := none, intTemp := none,
               unitTag := none },
      env := { s.env with todo := rest } }) ∧
  (∀ (s : State) (rest : List Nat), s.start = false → s.env.resets = 0 :: rest →
    step s = .next { s with
      out := { valid := false, status := none, tcCount := none, intCount := none, tcTemp := none, intTemp := none,
               unitTag := none },
      env := { s.env with resets := rest } }) ∧
  (∀ (s u : State) (n : Nat) (rest : List Nat), s.start = false → s.env.resets = (n + 1) :: rest →
    u = { s with env := { s.env with resets := [] } } →
    (∀ t, step u = .next t → step s = .next { t with env := { t.env with resets := n :: rest } }) ∧
    (∀ f, step u = .fault f → step s = .fault f) ∧ (∀ r, step u = .refused r → step s = .refused r)) ∧
  (∀ s : State, s.start = true → step (resetBlock s) = step s)

/-- 10_state R20, 70_reset R170: a read of a port completes. While VALID is 0 a read of another port faults and gives no
value; a read of a port that holds a value gives it, and while VALID is 1 a read of one that holds none gives some value
of that port. Nothing changes but the host's record and the free-value counter. That a read that faults is recorded and
the machine goes on, and what an empty port gives, are the model's choices (log 6, log 20). -/
def Obligations.ReadingAnOutputPort : Prop :=
  ∀ (s : State) (port : OutPort) (rest : List HostAction), atRest s → s.env.todo = .read port :: rest →
    ∃ v, readOf v = port ∧
      (v = .faulted port ↔ s.out.valid = false ∧ port ≠ .valid) ∧
      (∀ held, s.out.valid = true ∨ port = .valid → portValue s.out port = some held → v = held) ∧
      step s = .next { s with
        draws := s.draws + 1, env := { s.env with todo := rest, reads := s.env.reads ++ [v] } }

/-- A bare block operation (95_test_vectors section 3, 70_reset R172). That it is two steps, the host's and the
operation's, that START goes down and that the free-value counter moves on are the model's choices (log 12, 10, 8). -/
def Obligations.BareOperationRuns : Prop :=
  ∀ (s u : State) (cmd : BitVec 4) (bytes : FrameBytes) (rest : List HostAction), atRest s →
    s.env.todo = .operate cmd bytes :: rest →
    u = { s with frame := loadFrame bytes, cmd := cmd, start := true, env := { s.env with todo := rest } } →
    Host.Core.run Sys2Proof.core 1 s = .next u ∧
    (cmd ≠ 0b1110#4 → cmd ≠ 0b1111#4 → ∃ t, exec (decodeCmd cmd) u = .next t ∧
      Host.Core.run Sys2Proof.core 2 s = .next { t with start := false, draws := t.draws + 1 })

/-! ## The environment -/

/-- 43_block_operations R134 to R137, 42_transaction_wrapper R111: a call whose transaction succeeds runs to its end,
drives chip-select low, exchanges, drives it high, and returns the device fault or the reading of the bytes
received.The number of steps is the model's choice (log 12). -/
def Obligations.SuccessfulCall : Prop :=
  ∀ (s : State) (c : Call) (rest : List HostAction) (b0 b1 b2 b3 : Byte), atRest s →
    s.env.todo = .call c :: rest → c.driveLow = .ok → c.driveHigh = .ok →
    exchangeAnswer c.exchange = some (.received b0 b1 b2 b3) →
    ∃ t : State, Host.Core.run Sys2Proof.core (exchangeWait c.exchange + 7) s = .next t ∧ atRest t ∧
      t.env.todo = rest ∧ t.env.cs = some .high ∧ t.config = s.config ∧ t.env.reads = s.env.reads ∧
      t.env.trace = s.env.trace ++
        [.setCs .low .ok, .exchange (apiLen c.op) (.received b0 b1 b2 b3), .setCs .high .ok] ∧
      t.env.results = s.env.results ++ [expectedResult s.config c.op b0 b1 b2 b3]

/-- 42_transaction_wrapper R112: a pin error from the low transition ends the call: no exchange, no high transition,
the block not started. The number of steps (log 12) and the unknown level (log 15) are the model's. -/
def Obligations.CallFailsDrivingLow : Prop :=
  ∀ (s : State) (c : Call) (rest : List HostAction) (e : PinError), atRest s → s.env.todo = .call c :: rest →
    c.driveLow = .error e →
    ∃ t : State, Host.Core.run Sys2Proof.core 2 s = .next t ∧ atRest t ∧ t.env.todo = rest ∧ t.out = s.out ∧
      t.draws = s.draws ∧ t.env.cs = none ∧ t.env.trace = s.env.trace ++ [.setCs .low (.error e)] ∧
      t.env.results = s.env.results ++ [.pin e]

/-- 42_transaction_wrapper R112, R113: a transport error ends the call with chip-select left low, the block not
started. The number of steps is the model's choice (log 12). -/
def Obligations.CallFailsInExchange : Prop :=
  ∀ (s : State) (c : Call) (rest : List HostAction) (e : TransportError), atRest s → s.env.todo = .call c :: rest →
    c.driveLow = .ok → exchangeAnswer c.exchange = some (.error e) →
    ∃ t : State, Host.Core.run Sys2Proof.core (exchangeWait c.exchange + 3) s = .next t ∧ atRest t ∧
      t.env.todo = rest ∧ t.out = s.out ∧ t.draws = s.draws ∧ t.env.cs = some .low ∧
      t.env.trace = s.env.trace ++ [.setCs .low .ok, .exchange (apiLen c.op) (.error e)] ∧
      t.env.results = s.env.results ++ [.transport e]

/-- 42_transaction_wrapper R112: a pin error from the high transition is propagated too, and the frame received is
discarded, not decoded. The number of steps (log 12) and the unknown level (log 15) are the model's. -/
def Obligations.CallFailsDrivingHigh : Prop :=
  ∀ (s : State) (c : Call) (rest : List HostAction) (b0 b1 b2 b3 : Byte) (e : PinError), atRest s →
    s.env.todo = .call c :: rest → c.driveLow = .ok → exchangeAnswer c.exchange = some (.received b0 b1 b2 b3) →
    c.driveHigh = .error e →
    ∃ t : State, Host.Core.run Sys2Proof.core (exchangeWait c.exchange + 4) s = .next t ∧ atRest t ∧
      t.env.todo = rest ∧ t.out = s.out ∧ t.draws = s.draws ∧ t.frame = [] ∧ t.env.cs = none ∧
      t.env.trace = s.env.trace ++
        [.setCs .low .ok, .exchange (apiLen c.op) (.received b0 b1 b2 b3), .setCs .high (.error e)] ∧
      t.env.results = s.env.results ++ [.pin e]

/-- 42_transaction_wrapper R118: a cancelled exchange produces no frame, no block operation and no result; that the
line's level is then unknown is the model's reading (log 15, 16), and the number of steps its choice (log 12). -/
def Obligations.CancelledCall : Prop :=
  ∀ (s : State) (c : Call) (rest : List HostAction), atRest s → s.env.todo = .call c :: rest → c.driveLow = .ok →
    exchangeAnswer c.exchange = none →
    ∃ t : State, Host.Core.run Sys2Proof.core (exchangeWait c.exchange + 3) s = .next t ∧ atRest t ∧
      t.env.todo = rest ∧ t.out = s.out ∧ t.draws = s.draws ∧ t.frame = [] ∧ t.env.cs = none ∧
      t.env.trace = s.env.trace ++ [.setCs .low .ok, .exchangeCancelled (apiLen c.op)] ∧
      t.env.results = s.env.results

/-- 43_block_operations R140: a call does the same under both execution models, however long the exchange lasts. -/
def Obligations.OneContractForBothModels : Prop :=
  ∀ (s s' : State) (c c' : Call) (rest : List HostAction) (w w' : Nat) (answer : ExchangeAnswer), atRest s →
    c.exchange = .blocking w answer → c' = { c with exchange := .suspending w' answer } →
    s.env.todo = .call c :: rest → s' = { s with env := { s.env with todo := .call c' :: rest } } →
    ∃ (k k' : Nat) (t : State), Host.Core.run Sys2Proof.core k s = .next t ∧
      Host.Core.run Sys2Proof.core k' s' = .next t ∧ atRest t ∧ t.env.todo = rest ∧
      t.env.results.length = s.env.results.length + 1

/-! ## Invariants -/

/-- The invariant holds after reset, and the bus stands between transactions. -/
def Obligations.InvariantHoldsAtReset : Prop := Inv State.reset ∧ BusInv State.reset

/-- From every state that meets the invariant, a step gives a state that meets it. -/
def Obligations.StepKeepsInvariant : Prop :=
  ∀ s t : State, Inv s → step s = .next t → Inv t

/-- 42_transaction_wrapper R111, R112, R122 over any run: every bus event is in its place: an exchange only right
after chip-select was driven low, a high transition only right after a frame was received. -/
def Obligations.StepKeepsBusDiscipline : Prop :=
  ∀ s t : State, BusInv s → step s = .next t → BusInv t

/-- From a state that meets the invariant a step never faults, and refuses only a reserved command word
(40_frame_decoder R79: nothing traps, nothing hangs; 30_encoding R55). A call whose result a reset has cleared ends too,
with no result and the read that faulted on record, which is the model's choice (70_reset R170; log 27). -/
def Obligations.StopsOnlyWhenItShould : Prop :=
  ∀ s : State, Inv s →
    (∀ f, step s ≠ .fault f) ∧
    (∀ r, step s = .refused r ↔
      s.start = true ∧ (s.cmd = 0b1110#4 ∨ s.cmd = 0b1111#4) ∧ r = .reservedCommand) ∧
    (∀ op, s.start = false → s.env.resets = [] → s.env.phase = .collecting op → s.out.valid = false →
      ∃ t, step s = .next t ∧ atRest t ∧ t.out = s.out ∧ t.env.results = s.env.results ∧
        t.env.reads = s.env.reads ++ [.faulted .status])
end

