-- ==== Sys2Proof/Laws/State.lean ====
section
/-! SUPPORT. One lemma per field per named update of the state (Machine/Ops.lean), so that no later proof unfolds an
update of a record. -/

namespace Sys2Proof.Machine

variable (s : State)

@[simp] theorem setOut_config (o : Outputs) : (setOut s o).config = s.config := rfl
@[simp] theorem setOut_start (o : Outputs) : (setOut s o).start = s.start := rfl
@[simp] theorem setOut_cmd (o : Outputs) : (setOut s o).cmd = s.cmd := rfl
@[simp] theorem setOut_frame (o : Outputs) : (setOut s o).frame = s.frame := rfl
@[simp] theorem setOut_draws (o : Outputs) : (setOut s o).draws = s.draws := rfl
@[simp] theorem setOut_out (o : Outputs) : (setOut s o).out = o := rfl
@[simp] theorem setOut_env (o : Outputs) : (setOut s o).env = s.env := rfl

@[simp] theorem setFrame_config (m : Memory) : (setFrame s m).config = s.config := rfl
@[simp] theorem setFrame_start (m : Memory) : (setFrame s m).start = s.start := rfl
@[simp] theorem setFrame_cmd (m : Memory) : (setFrame s m).cmd = s.cmd := rfl
@[simp] theorem setFrame_frame (m : Memory) : (setFrame s m).frame = m := rfl
@[simp] theorem setFrame_draws (m : Memory) : (setFrame s m).draws = s.draws := rfl
@[simp] theorem setFrame_out (m : Memory) : (setFrame s m).out = s.out := rfl
@[simp] theorem setFrame_env (m : Memory) : (setFrame s m).env = s.env := rfl

@[simp] theorem setStart_config (b : Bool) : (setStart s b).config = s.config := rfl
@[simp] theorem setStart_start (b : Bool) : (setStart s b).start = b := rfl
@[simp] theorem setStart_cmd (b : Bool) : (setStart s b).cmd = s.cmd := rfl
@[simp] theorem setStart_frame (b : Bool) : (setStart s b).frame = s.frame := rfl
@[simp] theorem setStart_draws (b : Bool) : (setStart s b).draws = s.draws := rfl
@[simp] theorem setStart_out (b : Bool) : (setStart s b).out = s.out := rfl
@[simp] theorem setStart_env (b : Bool) : (setStart s b).env = s.env := rfl

@[simp] theorem setCmd_config (c : BitVec 4) : (setCmd s c).config = s.config := rfl
@[simp] theorem setCmd_start (c : BitVec 4) : (setCmd s c).start = s.start := rfl
@[simp] theorem setCmd_cmd (c : BitVec 4) : (setCmd s c).cmd = c := rfl
@[simp] theorem setCmd_frame (c : BitVec 4) : (setCmd s c).frame = s.frame := rfl
@[simp] theorem setCmd_draws (c : BitVec 4) : (setCmd s c).draws = s.draws := rfl
@[simp] theorem setCmd_out (c : BitVec 4) : (setCmd s c).out = s.out := rfl
@[simp] theorem setCmd_env (c : BitVec 4) : (setCmd s c).env = s.env := rfl

@[simp] theorem setDraws_config (n : Nat) : (setDraws s n).config = s.config := rfl
@[simp] theorem setDraws_start (n : Nat) : (setDraws s n).start = s.start := rfl
@[simp] theorem setDraws_cmd (n : Nat) : (setDraws s n).cmd = s.cmd := rfl
@[simp] theorem setDraws_frame (n : Nat) : (setDraws s n).frame = s.frame := rfl
@[simp] theorem setDraws_draws (n : Nat) : (setDraws s n).draws = n := rfl
@[simp] theorem setDraws_out (n : Nat) : (setDraws s n).out = s.out := rfl
@[simp] theorem setDraws_env (n : Nat) : (setDraws s n).env = s.env := rfl

@[simp] theorem nextDraw_config : (nextDraw s).config = s.config := rfl
@[simp] theorem nextDraw_start : (nextDraw s).start = s.start := rfl
@[simp] theorem nextDraw_cmd : (nextDraw s).cmd = s.cmd := rfl
@[simp] theorem nextDraw_frame : (nextDraw s).frame = s.frame := rfl
@[simp] theorem nextDraw_draws : (nextDraw s).draws = s.draws + 1 := rfl
@[simp] theorem nextDraw_out : (nextDraw s).out = s.out := rfl
@[simp] theorem nextDraw_env : (nextDraw s).env = s.env := rfl

@[simp] theorem setEnv_config (e : Env) : (setEnv s e).config = s.config := rfl
@[simp] theorem setEnv_start (e : Env) : (setEnv s e).start = s.start := rfl
@[simp] theorem setEnv_cmd (e : Env) : (setEnv s e).cmd = s.cmd := rfl
@[simp] theorem setEnv_frame (e : Env) : (setEnv s e).frame = s.frame := rfl
@[simp] theorem setEnv_draws (e : Env) : (setEnv s e).draws = s.draws := rfl
@[simp] theorem setEnv_out (e : Env) : (setEnv s e).out = s.out := rfl
@[simp] theorem setEnv_env (e : Env) : (setEnv s e).env = e := rfl

/-! Updates of one field of the environment: the rest of the state, then the environment field by field. -/

@[simp] theorem setCsLine_config (l : Option CsLevel) : (setCsLine s l).config = s.config := rfl
@[simp] theorem setCsLine_start (l : Option CsLevel) : (setCsLine s l).start = s.start := rfl
@[simp] theorem setCsLine_cmd (l : Option CsLevel) : (setCsLine s l).cmd = s.cmd := rfl
@[simp] theorem setCsLine_frame (l : Option CsLevel) : (setCsLine s l).frame = s.frame := rfl
@[simp] theorem setCsLine_draws (l : Option CsLevel) : (setCsLine s l).draws = s.draws := rfl
@[simp] theorem setCsLine_out (l : Option CsLevel) : (setCsLine s l).out = s.out := rfl
@[simp] theorem setCsLine_cs (l : Option CsLevel) : (setCsLine s l).env.cs = l := rfl
@[simp] theorem setCsLine_phase (l : Option CsLevel) : (setCsLine s l).env.phase = s.env.phase := rfl
@[simp] theorem setCsLine_todo (l : Option CsLevel) : (setCsLine s l).env.todo = s.env.todo := rfl
@[simp] theorem setCsLine_trace (l : Option CsLevel) : (setCsLine s l).env.trace = s.env.trace := rfl
@[simp] theorem setCsLine_results (l : Option CsLevel) : (setCsLine s l).env.results = s.env.results := rfl
@[simp] theorem setCsLine_reads (l : Option CsLevel) : (setCsLine s l).env.reads = s.env.reads := rfl
@[simp] theorem setCsLine_resets (l : Option CsLevel) : (setCsLine s l).env.resets = s.env.resets := rfl

@[simp] theorem setPhase_config (p : Phase) : (setPhase s p).config = s.config := rfl
@[simp] theorem setPhase_start (p : Phase) : (setPhase s p).start = s.start := rfl
@[simp] theorem setPhase_cmd (p : Phase) : (setPhase s p).cmd = s.cmd := rfl
@[simp] theorem setPhase_frame (p : Phase) : (setPhase s p).frame = s.frame := rfl
@[simp] theorem setPhase_draws (p : Phase) : (setPhase s p).draws = s.draws := rfl
@[simp] theorem setPhase_out (p : Phase) : (setPhase s p).out = s.out := rfl
@[simp] theorem setPhase_cs (p : Phase) : (setPhase s p).env.cs = s.env.cs := rfl
@[simp] theorem setPhase_phase (p : Phase) : (setPhase s p).env.phase = p := rfl
@[simp] theorem setPhase_todo (p : Phase) : (setPhase s p).env.todo = s.env.todo := rfl
@[simp] theorem setPhase_trace (p : Phase) : (setPhase s p).env.trace = s.env.trace := rfl
@[simp] theorem setPhase_results (p : Phase) : (setPhase s p).env.results = s.env.results := rfl
@[simp] theorem setPhase_reads (p : Phase) : (setPhase s p).env.reads = s.env.reads := rfl
@[simp] theorem setPhase_resets (p : Phase) : (setPhase s p).env.resets = s.env.resets := rfl

@[simp] theorem setTodo_config (t : List HostAction) : (setTodo s t).config = s.config := rfl
@[simp] theorem setTodo_start (t : List HostAction) : (setTodo s t).start = s.start := rfl
@[simp] theorem setTodo_cmd (t : List HostAction) : (setTodo s t).cmd = s.cmd := rfl
@[simp] theorem setTodo_frame (t : List HostAction) : (setTodo s t).frame = s.frame := rfl
@[simp] theorem setTodo_draws (t : List HostAction) : (setTodo s t).draws = s.draws := rfl
@[simp] theorem setTodo_out (t : List HostAction) : (setTodo s t).out = s.out := rfl
@[simp] theorem setTodo_cs (t : List HostAction) : (setTodo s t).env.cs = s.env.cs := rfl
@[simp] theorem setTodo_phase (t : List HostAction) : (setTodo s t).env.phase = s.env.phase := rfl
@[simp] theorem setTodo_todo (t : List HostAction) : (setTodo s t).env.todo = t := rfl
@[simp] theorem setTodo_trace (t : List HostAction) : (setTodo s t).env.trace = s.env.trace := rfl
@[simp] theorem setTodo_results (t : List HostAction) : (setTodo s t).env.results = s.env.results := rfl
@[simp] theorem setTodo_reads (t : List HostAction) : (setTodo s t).env.reads = s.env.reads := rfl
@[simp] theorem setTodo_resets (t : List HostAction) : (setTodo s t).env.resets = s.env.resets := rfl

@[simp] theorem setResets_config (r : List Nat) : (setResets s r).config = s.config := rfl
@[simp] theorem setResets_start (r : List Nat) : (setResets s r).start = s.start := rfl
@[simp] theorem setResets_cmd (r : List Nat) : (setResets s r).cmd = s.cmd := rfl
@[simp] theorem setResets_frame (r : List Nat) : (setResets s r).frame = s.frame := rfl
@[simp] theorem setResets_draws (r : List Nat) : (setResets s r).draws = s.draws := rfl
@[simp] theorem setResets_out (r : List Nat) : (setResets s r).out = s.out := rfl
@[simp] theorem setResets_cs (r : List Nat) : (setResets s r).env.cs = s.env.cs := rfl
@[simp] theorem setResets_phase (r : List Nat) : (setResets s r).env.phase = s.env.phase := rfl
@[simp] theorem setResets_todo (r : List Nat) : (setResets s r).env.todo = s.env.todo := rfl
@[simp] theorem setResets_trace (r : List Nat) : (setResets s r).env.trace = s.env.trace := rfl
@[simp] theorem setResets_results (r : List Nat) : (setResets s r).env.results = s.env.results := rfl
@[simp] theorem setResets_reads (r : List Nat) : (setResets s r).env.reads = s.env.reads := rfl
@[simp] theorem setResets_resets (r : List Nat) : (setResets s r).env.resets = r := rfl

@[simp] theorem addEvent_config (e : BusEvent) : (addEvent s e).config = s.config := rfl
@[simp] theorem addEvent_start (e : BusEvent) : (addEvent s e).start = s.start := rfl
@[simp] theorem addEvent_cmd (e : BusEvent) : (addEvent s e).cmd = s.cmd := rfl
@[simp] theorem addEvent_frame (e : BusEvent) : (addEvent s e).frame = s.frame := rfl
@[simp] theorem addEvent_draws (e : BusEvent) : (addEvent s e).draws = s.draws := rfl
@[simp] theorem addEvent_out (e : BusEvent) : (addEvent s e).out = s.out := rfl
@[simp] theorem addEvent_cs (e : BusEvent) : (addEvent s e).env.cs = s.env.cs := rfl
@[simp] theorem addEvent_phase (e : BusEvent) : (addEvent s e).env.phase = s.env.phase := rfl
@[simp] theorem addEvent_todo (e : BusEvent) : (addEvent s e).env.todo = s.env.todo := rfl
@[simp] theorem addEvent_trace (e : BusEvent) : (addEvent s e).env.trace = s.env.trace ++ [e] := rfl
@[simp] theorem addEvent_results (e : BusEvent) : (addEvent s e).env.results = s.env.results := rfl
@[simp] theorem addEvent_reads (e : BusEvent) : (addEvent s e).env.reads = s.env.reads := rfl
@[simp] theorem addEvent_resets (e : BusEvent) : (addEvent s e).env.resets = s.env.resets := rfl

@[simp] theorem addResult_config (r : ApiResult) : (addResult s r).config = s.config := rfl
@[simp] theorem addResult_start (r : ApiResult) : (addResult s r).start = s.start := rfl
@[simp] theorem addResult_cmd (r : ApiResult) : (addResult s r).cmd = s.cmd := rfl
@[simp] theorem addResult_frame (r : ApiResult) : (addResult s r).frame = s.frame := rfl
@[simp] theorem addResult_draws (r : ApiResult) : (addResult s r).draws = s.draws := rfl
@[simp] theorem addResult_out (r : ApiResult) : (addResult s r).out = s.out := rfl
@[simp] theorem addResult_cs (r : ApiResult) : (addResult s r).env.cs = s.env.cs := rfl
@[simp] theorem addResult_phase (r : ApiResult) : (addResult s r).env.phase = s.env.phase := rfl
@[simp] theorem addResult_todo (r : ApiResult) : (addResult s r).env.todo = s.env.todo := rfl
@[simp] theorem addResult_trace (r : ApiResult) : (addResult s r).env.trace = s.env.trace := rfl
@[simp] theorem addResult_results (r : ApiResult) : (addResult s r).env.results = s.env.results ++ [r] := rfl
@[simp] theorem addResult_reads (r : ApiResult) : (addResult s r).env.reads = s.env.reads := rfl
@[simp] theorem addResult_resets (r : ApiResult) : (addResult s r).env.resets = s.env.resets := rfl

@[simp] theorem addRead_config (r : PortRead) : (addRead s r).config = s.config := rfl
@[simp] theorem addRead_start (r : PortRead) : (addRead s r).start = s.start := rfl
@[simp] theorem addRead_cmd (r : PortRead) : (addRead s r).cmd = s.cmd := rfl
@[simp] theorem addRead_frame (r : PortRead) : (addRead s r).frame = s.frame := rfl
@[simp] theorem addRead_draws (r : PortRead) : (addRead s r).draws = s.draws := rfl
@[simp] theorem addRead_out (r : PortRead) : (addRead s r).out = s.out := rfl
@[simp] theorem addRead_cs (r : PortRead) : (addRead s r).env.cs = s.env.cs := rfl
@[simp] theorem addRead_phase (r : PortRead) : (addRead s r).env.phase = s.env.phase := rfl
@[simp] theorem addRead_todo (r : PortRead) : (addRead s r).env.todo = s.env.todo := rfl
@[simp] theorem addRead_trace (r : PortRead) : (addRead s r).env.trace = s.env.trace := rfl
@[simp] theorem addRead_results (r : PortRead) : (addRead s r).env.results = s.env.results := rfl
@[simp] theorem addRead_reads (r : PortRead) : (addRead s r).env.reads = s.env.reads ++ [r] := rfl
@[simp] theorem addRead_resets (r : PortRead) : (addRead s r).env.resets = s.env.resets := rfl

end Sys2Proof.Machine
end

