-- ==== Sys2Proof/Laws/Ops.lean ====
section
/-! SUPPORT. One lemma per shared operation (Machine/Ops.lean, Flags.lean, FrameDecoder.lean): what it does, once. -/

namespace Sys2Proof.Machine

/-! ## The frame buffer -/

theorem risingFrom_mono {m : Memory} {lo lo' : Nat} (h : risingFrom lo m = true) (hle : lo' ≤ lo) :
    risingFrom lo' m = true := by
  cases m with
  | nil => rfl
  | cons c m =>
    simp only [risingFrom, Bool.and_eq_true, decide_eq_true_eq] at h ⊢
    exact ⟨⟨by omega, h.1.2⟩, h.2⟩

/-- Writing a byte of the address space keeps the offsets rising. -/
theorem risingFrom_setByte {m : Memory} {lo x : Nat} (v : Byte) (h : risingFrom lo m = true) (hlo : lo ≤ x)
    (hx : x < 4) : risingFrom lo (setByte m x v) = true := by
  induction m generalizing lo with
  | nil => simp [setByte, risingFrom, hlo, hx]
  | cons c m ih =>
    obtain ⟨a, b⟩ := c
    simp only [risingFrom, Bool.and_eq_true, decide_eq_true_eq] at h
    obtain ⟨⟨ha, ha4⟩, hm⟩ := h
    unfold setByte
    split
    · simp [risingFrom, hm]; omega
    · split
      · subst_vars; simp [risingFrom, hm, ha, ha4]
      · simp only [risingFrom, Bool.and_eq_true, decide_eq_true_eq]
        exact ⟨⟨ha, ha4⟩, ih hm (by omega)⟩

/-- Every write keeps the canonical form. -/
theorem setByte_wf {m : Memory} {x : Nat} (v : Byte) (h : Memory.wf m = true) (hx : x < 4) :
    Memory.wf (setByte m x v) = true :=
  risingFrom_setByte v h (Nat.zero_le x) hx

@[simp] theorem wf_nil : Memory.wf [] = true := rfl

/-- A received frame is in canonical form. -/
@[simp] theorem loadFrame_wf (bytes : FrameBytes) : Memory.wf (loadFrame bytes) = true := by
  cases bytes <;> rfl

theorem byteAt_setByte_same (m : Memory) (x : Nat) (v : Byte) : byteAt (setByte m x v) x = some v := by
  induction m with
  | nil => simp [setByte, byteAt]
  | cons c m ih =>
    obtain ⟨a, b⟩ := c
    unfold setByte
    split
    · simp [byteAt]
    · split
      · simp [byteAt]
      · have : a ≠ x := by omega
        simp [byteAt, this, ih]

theorem byteAt_setByte_other {x y : Nat} (m : Memory) (v : Byte) (hne : y ≠ x) :
    byteAt (setByte m x v) y = byteAt m y := by
  induction m with
  | nil => simp [setByte, byteAt, hne.symm]
  | cons c m ih =>
    obtain ⟨a, b⟩ := c
    unfold setByte
    split
    · simp [byteAt, hne.symm]
    · split
      · subst_vars; simp [byteAt, hne.symm]
      · simp only [byteAt, ih]

@[simp] theorem byteAt_loadFrame_two (b0 b1 : Byte) (x : Nat) :
    byteAt (loadFrame (.two b0 b1)) x = if x = 0 then some b0 else if x = 1 then some b1 else none := by
  match x with
  | 0 => rfl
  | 1 => rfl
  | n + 2 => rfl

@[simp] theorem byteAt_loadFrame_four (b0 b1 b2 b3 : Byte) (x : Nat) :
    byteAt (loadFrame (.four b0 b1 b2 b3)) x =
      if x = 0 then some b0 else if x = 1 then some b1 else if x = 2 then some b2 else if x = 3 then some b3
      else none := by
  match x with
  | 0 => rfl
  | 1 => rfl
  | 2 => rfl
  | 3 => rfl
  | n + 4 => rfl

/-! ## The FRAME port -/

/-- A byte that drives FRAME is the byte sampled. -/
theorem sampleByte_of_byteAt {s : State} {x : Nat} {b : Byte} (h : byteAt s.frame x = some b) :
    sampleByte s x = b := by
  simp [sampleByte, h]

theorem frameWord0_of_bytes {s : State} {b0 b1 : Byte} (h0 : byteAt s.frame 0 = some b0)
    (h1 : byteAt s.frame 1 = some b1) : frameWord0 s = word b0 b1 := by
  simp [frameWord0, memRead16, sampleByte_of_byteAt h0, sampleByte_of_byteAt h1]

theorem frameWord1_of_bytes {s : State} {b2 b3 : Byte} (h2 : byteAt s.frame 2 = some b2)
    (h3 : byteAt s.frame 3 = some b3) : frameWord1 s = word b2 b3 := by
  simp [frameWord1, memRead16, sampleByte_of_byteAt h2, sampleByte_of_byteAt h3]

/-! ## Driving the output ports -/

@[simp] theorem raiseFault_out (s : State) (k : FaultKind) : (raiseFault s k).out = faultOutputs k := rfl
@[simp] theorem complete_out (s : State) (r : Result) : (complete s r).out = resultOutputs r := rfl

/-- An operation ends by driving the output ports and does nothing else. -/
theorem finish_eq_setOut (s : State) (o : Except FaultKind Result) :
    finish s o = setOut s (match o with | .error k => faultOutputs k | .ok r => resultOutputs r) := by
  cases o <;> rfl

@[simp] theorem finish_error (s : State) (k : FaultKind) : finish s (.error k) = setOut s (faultOutputs k) := rfl
@[simp] theorem finish_ok (s : State) (r : Result) : finish s (.ok r) = setOut s (resultOutputs r) := rfl

/-! ## Reading the output ports -/

/-- While VALID is 0 a read of any other port faults and gives no value (70_reset R170). -/
theorem readPort_of_not_valid (draw : Nat) {o : Outputs} {port : OutPort} (h : o.valid = false)
    (hp : port ≠ .valid) : readPort draw o port = .faulted port := by
  cases port <;> simp_all [readPort, readWhenValid]

@[simp] theorem recordRead_config (port : OutPort) (s : State) : (recordRead port s).config = s.config := rfl
@[simp] theorem recordRead_start (port : OutPort) (s : State) : (recordRead port s).start = s.start := rfl
@[simp] theorem recordRead_cmd (port : OutPort) (s : State) : (recordRead port s).cmd = s.cmd := rfl
@[simp] theorem recordRead_frame (port : OutPort) (s : State) : (recordRead port s).frame = s.frame := rfl
@[simp] theorem recordRead_draws (port : OutPort) (s : State) : (recordRead port s).draws = s.draws + 1 := rfl
@[simp] theorem recordRead_out (port : OutPort) (s : State) : (recordRead port s).out = s.out := rfl
@[simp] theorem recordRead_cs (port : OutPort) (s : State) : (recordRead port s).env.cs = s.env.cs := rfl
@[simp] theorem recordRead_phase (port : OutPort) (s : State) : (recordRead port s).env.phase = s.env.phase := rfl
@[simp] theorem recordRead_todo (port : OutPort) (s : State) : (recordRead port s).env.todo = s.env.todo := rfl
@[simp] theorem recordRead_resets (port : OutPort) (s : State) : (recordRead port s).env.resets = s.env.resets := rfl
@[simp] theorem recordRead_trace (port : OutPort) (s : State) : (recordRead port s).env.trace = s.env.trace := rfl
@[simp] theorem recordRead_results (port : OutPort) (s : State) :
    (recordRead port s).env.results = s.env.results := rfl
@[simp] theorem recordRead_reads (port : OutPort) (s : State) :
    (recordRead port s).env.reads = s.env.reads ++ [readPort s.draws s.out port] := rfl

@[simp] theorem portStatus_some (draw : Nat) {o : Outputs} {v : BitVec 3} (h : o.status = some v) :
    portStatus draw o = v := by simp [portStatus, h]
@[simp] theorem portTcCount_some (draw : Nat) {o : Outputs} {v : Count} (h : o.tcCount = some v) :
    portTcCount draw o = v := by simp [portTcCount, h]
@[simp] theorem portIntCount_some (draw : Nat) {o : Outputs} {v : Count} (h : o.intCount = some v) :
    portIntCount draw o = v := by simp [portIntCount, h]
@[simp] theorem portTcTemp_some (draw : Nat) {o : Outputs} {v : Temp} (h : o.tcTemp = some v) :
    portTcTemp draw o = v := by simp [portTcTemp, h]
@[simp] theorem portIntTemp_some (draw : Nat) {o : Outputs} {v : Temp} (h : o.intTemp = some v) :
    portIntTemp draw o = v := by simp [portIntTemp, h]
@[simp] theorem portUnitTag_some (draw : Nat) {o : Outputs} {v : BitVec 2} (h : o.unitTag = some v) :
    portUnitTag draw o = v := by simp [portUnitTag, h]

/-! ## The Frame Decoder -/

theorem dec16_faulted {w : Word16} (h : gflag w = true) : dec16 w = .error .genericFault := by
  simp [dec16, h]

theorem dec16_clear {w : Word16} (h : gflag w = false) : dec16 w = .ok (sext14 (xtc w)) := by
  simp [dec16, h]

/-- A clear composite flag is no fault, whatever the specific bits are (40_frame_decoder R75). -/
theorem resolve32_clear {b : FaultBits} (h : b.cflag = false) : resolve32 b = none := by
  simp [resolve32, h]

/-- A set composite flag is some fault (40_frame_decoder R75: the fallback is an outcome). -/
theorem resolve32_set {b : FaultBits} (h : b.cflag = true) : ∃ k, resolve32 b = some k := by
  simp only [resolve32, h, Bool.not_true, Bool.false_eq_true, if_false]
  repeat' split
  all_goals exact ⟨_, rfl⟩

theorem dec32_faulted {sel : CflagSel} {w0 w1 : Word16} {k : FaultKind}
    (h : resolve32 (splitFaultBits sel w0 w1) = some k) : dec32 sel w0 w1 = .error k := by
  simp [dec32, h]

theorem dec32_clear {sel : CflagSel} {w0 w1 : Word16} (h : resolve32 (splitFaultBits sel w0 w1) = none) :
    dec32 sel w0 w1 = .ok (sext14 (xtc w0), sext12 (xint w1)) := by
  simp [dec32, h]

/-- The code of a fault names the fault (30_encoding R56). -/
@[simp] theorem faultOfCode_faultCode (k : FaultKind) : faultOfCode (faultCode k) = some k := by
  cases k <;> rfl

end Sys2Proof.Machine
end

