-- ==== Sys2Proof/Laws/Block.lean ====
section
/-! SUPPORT. What the meanings and the steps can do, once: every meaning but the reserved words' drives the output
ports and nothing else; a step is one of a few named moves. -/

namespace Sys2Proof.Machine

/-- The shape of every meaning: if exec gives a next state, only the output ports differ. -/
theorem exec_cases {i : Instr} {s t : State} (h : exec i s = .next t) : t = setOut s t.out := by
  cases i <;>
    simp only [exec, execTcraw, execTccnvC, execTccnvF, execTccnvK, execAllraw, execAllcnvC, execAllcnvF,
      execAllcnvK, execReserved, execF16Ok, execF16GenericFault, execF32Ok, execF32MissingTc, execF32w0Ok,
      execF32w0MissingTc, execF32w0GndShort, execF32w0VccShort, execF32w0GenericFault, withDec16, withDec32,
      finish_eq_setOut, complete, raiseFault, Host.Outcome.next.injEq, reduceCtorEq] at h <;>
    subst h <;> rfl

/-- Raising START runs the operation that CMD names (70_reset R176). -/
theorem step_of_start {s : State} (h : s.start = true) : step s = withAfter (exec (decodeCmd s.cmd) s) := by
  simp [step, h]

/-- With START at 0 the step is the environment's (60_exceptions R155). -/
theorem step_of_not_start {s : State} (h : s.start = false) : step s = stepEnv s := by
  simp [step, h]

@[simp] theorem withAfter_next (s : State) : withAfter (.next s) = .next (afterOperation s) := rfl
@[simp] theorem withAfter_fault (f : Fault) : withAfter (.fault f) = .fault f := rfl
@[simp] theorem withAfter_refused (r : Refusal) : withAfter (.refused r) = .refused r := rfl

@[simp] theorem afterOperation_config (s : State) : (afterOperation s).config = s.config := rfl
@[simp] theorem afterOperation_start (s : State) : (afterOperation s).start = false := rfl
@[simp] theorem afterOperation_cmd (s : State) : (afterOperation s).cmd = s.cmd := rfl
@[simp] theorem afterOperation_frame (s : State) : (afterOperation s).frame = s.frame := rfl
@[simp] theorem afterOperation_draws (s : State) : (afterOperation s).draws = s.draws + 1 := rfl
@[simp] theorem afterOperation_out (s : State) : (afterOperation s).out = s.out := rfl
@[simp] theorem afterOperation_env (s : State) : (afterOperation s).env = s.env := rfl

@[simp] theorem resetsAfterStep_nil : resetsAfterStep [] = [] := rfl
@[simp] theorem resetsAfterStep_succ (n : Nat) (rest : List Nat) : resetsAfterStep ((n + 1) :: rest) = n :: rest := rfl

@[simp] theorem tickResets_config (s : State) : (tickResets s).config = s.config := rfl
@[simp] theorem tickResets_start (s : State) : (tickResets s).start = s.start := rfl
@[simp] theorem tickResets_cmd (s : State) : (tickResets s).cmd = s.cmd := rfl
@[simp] theorem tickResets_frame (s : State) : (tickResets s).frame = s.frame := rfl
@[simp] theorem tickResets_draws (s : State) : (tickResets s).draws = s.draws := rfl
@[simp] theorem tickResets_out (s : State) : (tickResets s).out = s.out := rfl
@[simp] theorem tickResets_cs (s : State) : (tickResets s).env.cs = s.env.cs := rfl
@[simp] theorem tickResets_phase (s : State) : (tickResets s).env.phase = s.env.phase := rfl
@[simp] theorem tickResets_todo (s : State) : (tickResets s).env.todo = s.env.todo := rfl
@[simp] theorem tickResets_resets (s : State) : (tickResets s).env.resets = resetsAfterStep s.env.resets := rfl
@[simp] theorem tickResets_trace (s : State) : (tickResets s).env.trace = s.env.trace := rfl
@[simp] theorem tickResets_results (s : State) : (tickResets s).env.results = s.env.results := rfl
@[simp] theorem tickResets_reads (s : State) : (tickResets s).env.reads = s.env.reads := rfl

/-- With no reset to come there is nothing to count. -/
theorem tickResets_of_nil {s : State} (h : s.env.resets = []) : tickResets s = s := by
  simp only [tickResets, setResets, setEnv, h, resetsAfterStep_nil]
  rw [← h]

/-- A reset that is due happens, wherever the host's call stands (70_reset R170). -/
theorem step_of_reset_due {s : State} {rest : List Nat} (h : s.start = false) (hr : s.env.resets = 0 :: rest) :
    step s = .next (setResets (resetBlock s) rest) := by
  simp [step, h, stepEnv, hr]

/-- With START at 0 and no reset due the step is the host's. -/
theorem step_of_host {s : State} (h : s.start = false) (hr : ∀ rest, s.env.resets ≠ 0 :: rest) :
    step s = stepHost (tickResets s) := by
  rw [step_of_not_start h]
  cases hp : s.env.resets with
  | nil => simp only [stepEnv, hp, tickResets_of_nil hp]
  | cons n rest =>
    cases n with
    | zero => exact absurd hp (hr rest)
    | succ n => simp only [stepEnv, hp]

/-- With START at 0 and no reset to come the step is the host's. -/
theorem step_of_no_resets {s : State} (h : s.start = false) (hr : s.env.resets = []) : step s = stepHost s := by
  rw [step_of_host h (by simp [hr]), tickResets_of_nil hr]

/-- Everything a step of the host can do, when it gives a next state. -/
theorem stepHost_cases {s t : State} (h : stepHost s = .next t) :
    (∃ c, s.env.phase = .drivingLow c ∧ t = stepDriveLow c s) ∨
    (∃ c left, s.env.phase = .exchanging c (left + 1) ∧ t = setPhase s (.exchanging c left)) ∨
    (∃ c, s.env.phase = .exchanging c 0 ∧ t = stepExchange c s) ∨
    (∃ c, s.env.phase = .drivingHigh c ∧ t = stepDriveHigh c s) ∨
    (∃ op, s.env.phase = .starting op ∧ t = stepStart op s) ∨
    (∃ op r, s.env.phase = .collecting op ∧ s.out.valid = true ∧
      resultOfStatus op s.draws s.out (portStatus s.draws s.out) = .ok r ∧ t = addResult (endCall (nextDraw s)) r) ∨
    (∃ op, s.env.phase = .collecting op ∧ s.out.valid = false ∧ t = endCall (recordRead .status s)) ∨
    (s.env.phase = .idle ∧ s.env.todo = [] ∧ t = s) ∨
    (∃ a rest, s.env.phase = .idle ∧ s.env.todo = a :: rest ∧ stepAction a (setTodo s rest) = .next t) := by
  cases hp : s.env.phase with
  | idle =>
    cases ht : s.env.todo with
    | nil =>
      simp only [stepHost, hp, ht, Host.Outcome.next.injEq] at h
      simp [h]
    | cons a rest =>
      simp only [stepHost, hp, ht] at h
      simp [h]
  | drivingLow c => simp only [stepHost, hp, Host.Outcome.next.injEq] at h; simp [h]
  | exchanging c left =>
    cases left with
    | zero => simp only [stepHost, hp, Host.Outcome.next.injEq] at h; simp [h]
    | succ n => simp only [stepHost, hp, Host.Outcome.next.injEq] at h; simp [h]
  | drivingHigh c => simp only [stepHost, hp, Host.Outcome.next.injEq] at h; simp [h]
  | starting op => simp only [stepHost, hp, Host.Outcome.next.injEq] at h; simp [h]
  | collecting op =>
    simp only [stepHost, hp, stepCollect] at h
    split at h
    · split at h
      · rename_i hv _ r hr
        simp only [Host.Outcome.next.injEq] at h
        simp [hv, hr, h]
      · cases h
    · rename_i hv
      simp only [Host.Outcome.next.injEq] at h
      simp [hv, h]

/-- Everything one step can do, when it gives a next state: the operation, a reset that is due, or a step of the
host (`stepHost_cases`). -/
theorem step_cases {s t : State} (h : step s = .next t) :
    (s.start = true ∧ ∃ u, exec (decodeCmd s.cmd) s = .next u ∧ t = afterOperation u) ∨
    (s.start = false ∧ ∃ rest, s.env.resets = 0 :: rest ∧ t = setResets (resetBlock s) rest) ∨
    (s.start = false ∧ (∀ rest, s.env.resets ≠ 0 :: rest) ∧ stepHost (tickResets s) = .next t) := by
  cases hs : s.start with
  | true =>
    rw [step_of_start hs] at h
    cases he : exec (decodeCmd s.cmd) s with
    | next u => rw [he, withAfter_next] at h; exact .inl ⟨rfl, u, rfl, (Host.Outcome.next.inj h).symm⟩
    | fault f => rw [he] at h; cases h
    | refused r => rw [he] at h; cases h
  | false =>
    by_cases hr : ∃ rest, s.env.resets = 0 :: rest
    · obtain ⟨rest, hr⟩ := hr
      rw [step_of_reset_due hs hr] at h
      exact .inr (.inl ⟨rfl, rest, hr, (Host.Outcome.next.inj h).symm⟩)
    · rw [step_of_host hs (not_exists.mp hr)] at h
      exact .inr (.inr ⟨rfl, not_exists.mp hr, h⟩)

end Sys2Proof.Machine
end

