-- ==== Sys2Proof/Laws/PerInstr.lean ====
section
/-! SUPPORT. Statements about every instruction, one lemma per constructor. -/

namespace Sys2Proof.Laws.Encoding

/-- An instruction's encoding has as many bytes as its format (20_memory R35: the length must be exact). -/
def Statement (i : Instr) : Prop := (encode i).length = (formatOf i).bytes

theorem tcraw (unit : BitVec 2) : Statement (.tcraw unit) := rfl
theorem tccnvC : Statement .tccnvC := rfl
theorem tccnvF : Statement .tccnvF := rfl
theorem tccnvK : Statement .tccnvK := rfl
theorem allraw (unit : BitVec 2) : Statement (.allraw unit) := rfl
theorem allcnvC : Statement .allcnvC := rfl
theorem allcnvF : Statement .allcnvF := rfl
theorem allcnvK : Statement .allcnvK := rfl
theorem reserved (wide : BitVec 1) : Statement (.reserved wide) := rfl
theorem f16Ok (t : BitVec 14) (r : BitVec 1) : Statement (.f16Ok t r) := rfl
theorem f16GenericFault (x : BitVec 14) (r : BitVec 1) : Statement (.f16GenericFault x r) := rfl
theorem f32Ok (t : BitVec 14) (r0 : BitVec 2) (i : BitVec 12) (r1 : BitVec 1) (x : BitVec 2) :
    Statement (.f32Ok t r0 i r1 x) := rfl
theorem f32MissingTc (x0 : BitVec 14) (r0 : BitVec 2) (x1 : BitVec 12) (r1 : BitVec 1) (x2 : BitVec 2) :
    Statement (.f32MissingTc x0 r0 x1 r1 x2) := rfl
theorem f32w0Ok (t : BitVec 14) (r0 : BitVec 1) (i : BitVec 12) (r1 : BitVec 1) (x : BitVec 3) :
    Statement (.f32w0Ok t r0 i r1 x) := rfl
theorem f32w0MissingTc (x0 : BitVec 14) (r0 : BitVec 1) (x1 : BitVec 12) (r1 : BitVec 1) (x2 : BitVec 2) :
    Statement (.f32w0MissingTc x0 r0 x1 r1 x2) := rfl
theorem f32w0GndShort (x0 : BitVec 14) (r0 : BitVec 1) (x1 : BitVec 12) (r1 : BitVec 1) (x2 : BitVec 1) :
    Statement (.f32w0GndShort x0 r0 x1 r1 x2) := rfl
theorem f32w0VccShort (x0 : BitVec 14) (r0 : BitVec 1) (x1 : BitVec 12) (r1 : BitVec 1) :
    Statement (.f32w0VccShort x0 r0 x1 r1) := rfl
theorem f32w0GenericFault (x0 : BitVec 14) (r0 : BitVec 1) (x1 : BitVec 12) (r1 : BitVec 1) :
    Statement (.f32w0GenericFault x0 r0 x1 r1) := rfl

end Sys2Proof.Laws.Encoding
end

