-- ==== Sys2Proof/Tests/Slice0.lean ====
section
/-! SUPPORT. Tests with results from the spec's vectors (95_test_vectors), and, for each statement with hypotheses, a
concrete state that meets them all. -/

namespace Sys2Proof.Tests

open Sys2Proof.Machine

/-! ## Well-formedness: the one check, refused and accepted -/

theorem test_wf_f32_row_refused_under_w0 : WellFormed .w0Bit0 (.f32Ok 100#14 0#2 400#12 0#1 0#2) = false := by decide
theorem test_wf_f32_missing_refused_under_w0 : WellFormed .w0Bit0 (.f32MissingTc 0#14 0#2 0#12 0#1 0#2) = false := by
  decide
theorem test_wf_f32w0_ok_refused_under_w1 : WellFormed .w1Bit0 (.f32w0Ok 0#14 0#1 0#12 0#1 0#3) = false := by decide
theorem test_wf_f32w0_missing_refused_under_w1 :
    WellFormed .w1Bit0 (.f32w0MissingTc 0#14 0#1 0#12 0#1 0#2) = false := by decide
theorem test_wf_f32w0_gnd_refused_under_w1 :
    WellFormed .w1Bit0 (.f32w0GndShort 0#14 0#1 0#12 0#1 0#1) = false := by decide
theorem test_wf_f32w0_vcc_refused_under_w1 : WellFormed .w1Bit0 (.f32w0VccShort 0#14 0#1 0#12 0#1) = false := by decide
theorem test_wf_f32w0_generic_refused_under_w1 :
    WellFormed .w1Bit0 (.f32w0GenericFault 0#14 0#1 0#12 0#1) = false := by decide
theorem test_wf_command_rows_either_build : WellFormed .w0Bit0 (.allraw 3#2) = true ∧ WellFormed .w1Bit0 .tccnvF = true := by
  decide

/-! ## Decoding: every constructor's word, from 30_encoding R54, R57, R58, R62 and V-OP -/

theorem test_decode_tcraw : decode .w1Bit0 .command [0b00000000#8] = .instr (.tcraw 0#2) := by decide
theorem test_decode_tcraw_unit_bits : decode .w1Bit0 .command [0b00001100#8] = .instr (.tcraw 3#2) := by decide
theorem test_decode_tccnvC : decode .w1Bit0 .command [0b00000010#8] = .instr .tccnvC := by decide
theorem test_decode_tccnvF : decode .w1Bit0 .command [0b00000110#8] = .instr .tccnvF := by decide
theorem test_decode_tccnvK : decode .w1Bit0 .command [0b00001010#8] = .instr .tccnvK := by decide
theorem test_decode_allraw : decode .w1Bit0 .command [0b00001001#8] = .instr (.allraw 2#2) := by decide
theorem test_decode_allcnvC : decode .w1Bit0 .command [0b00000011#8] = .instr .allcnvC := by decide
theorem test_decode_allcnvF : decode .w1Bit0 .command [0b00000111#8] = .instr .allcnvF := by decide
theorem test_decode_allcnvK : decode .w1Bit0 .command [0b00001011#8] = .instr .allcnvK := by decide
theorem test_decode_reserved_narrow : decode .w1Bit0 .command [0b00001110#8] = .instr (.reserved 0#1) := by decide
theorem test_decode_reserved_wide : decode .w1Bit0 .command [0b00001111#8] = .instr (.reserved 1#1) := by decide
theorem test_decode_command_too_wide : decode .w1Bit0 .command [0b00010000#8] = .commandTooWide := by decide
theorem test_decode_three_bytes_rejected : decode .w1Bit0 .frame16 [1#8, 2#8, 3#8] = .wrongLength := by decide

/-- `W = 10000000000000 1 0`: the sign bit alone, W[1] set. -/
theorem test_decode_f16Ok : decode .w1Bit0 .frame16 [0b10000000#8, 0b00000010#8] = .instr (.f16Ok 0x2000#14 1#1) := by
  decide
/-- `W = 00000000001010 0 1` (V-D16 `[0x00, 0x29]`). -/
theorem test_decode_f16GenericFault :
    decode .w1Bit0 .frame16 [0b00000000#8, 0b00101001#8] = .instr (.f16GenericFault 10#14 0#1) := by decide
/-- `W0 = 11110000011000 1 0`, `W1 = 111111110110 1 01 0`. -/
theorem test_decode_f32Ok : decode .w1Bit0 .frame32 [0b11110000#8, 0b01100010#8, 0b11111111#8, 0b01101010#8] =
    .instr (.f32Ok 0x3C18#14 2#2 0xFF6#12 1#1 1#2) := by decide
/-- `W0 = 00000000001010 0 1`, `W1 = 000110010000 0 10 1` (V-D32 `[0x00, 0x29, 0x19, 0x05]`). -/
theorem test_decode_f32MissingTc : decode .w1Bit0 .frame32 [0b00000000#8, 0b00101001#8, 0b00011001#8, 0b00000101#8] =
    .instr (.f32MissingTc 10#14 1#2 400#12 0#1 2#2) := by decide
/-- `W0 = 00000000001010 0 0`, `W1 = 000110010000 0 011`. -/
theorem test_decode_f32w0Ok : decode .w0Bit0 .frame32 [0b00000000#8, 0b00101000#8, 0b00011001#8, 0b00000011#8] =
    .instr (.f32w0Ok 10#14 0#1 400#12 0#1 3#3) := by decide
/-- `W0 = 0..0 0 1`, `W1 = 0..0 0 11 1` (V-D32 `[0x00, 0x01, 0x00, 0x07]`). -/
theorem test_decode_f32w0MissingTc : decode .w0Bit0 .frame32 [0x00#8, 0b00000001#8, 0x00#8, 0b00000111#8] =
    .instr (.f32w0MissingTc 0#14 0#1 0#12 0#1 3#2) := by decide
/-- `W1 = 0..0 0 1 10` (V-D32 `[0x00, 0x01, 0x00, 0x06]`: priority over short-to-VCC). -/
theorem test_decode_f32w0GndShort : decode .w0Bit0 .frame32 [0x00#8, 0b00000001#8, 0x00#8, 0b00000110#8] =
    .instr (.f32w0GndShort 0#14 0#1 0#12 0#1 1#1) := by decide
/-- `W1 = 0..0 0 100` (V-D32 `[0x00, 0x01, 0x00, 0x04]`). -/
theorem test_decode_f32w0VccShort : decode .w0Bit0 .frame32 [0x00#8, 0b00000001#8, 0x00#8, 0b00000100#8] =
    .instr (.f32w0VccShort 0#14 0#1 0#12 0#1) := by decide
/-- `W1 = 0..0 1 000` (V-D32 `[0x00, 0x01, 0x00, 0x08]`). -/
theorem test_decode_f32w0GenericFault : decode .w0Bit0 .frame32 [0x00#8, 0b00000001#8, 0x00#8, 0b00001000#8] =
    .instr (.f32w0GenericFault 0#14 0#1 0#12 1#1) := by decide

/-- The same frame is F32.OK under the default and F32_W0.GND_SHORT under the alternative (92_eei_decisions D8's
probe). -/
theorem test_decode_depends_on_cflagSel :
    decodeTableWord 32 0x00010002 = some (.f32Ok 0#14 1#2 0#12 0#1 1#2) ∧
    decode .w0Bit0 .frame32 [0x00#8, 0x01#8, 0x00#8, 0x02#8] = .instr (.f32w0GndShort 0#14 0#1 0#12 0#1 0#1) := by decide

theorem test_decodeTableWord_rows :
    decodeTableWord 8 0b1010 = some .tccnvK ∧ decodeTableWord 8 0b1110 = some (.reserved 0#1) ∧
    decodeTableWord 16 0x0001 = some (.f16GenericFault 0#14 0#1) ∧
    decodeTableWord 32 0x00000001 = some (.f32MissingTc 0#14 0#2 0#12 0#1 0#2) := by decide

/-! ## The decoder and the converter: vectors V-SX, V-D16, V-D32, V-UC -/

theorem test_sext14_wrong_sign_bit : sext14 0x1000#14 = 0x1000#16 ∧ sext14 0x3000#14 = 0xF000#16 := by decide
theorem test_sext14_ends : sext14 0x1FFF#14 = 0x1FFF#16 ∧ sext14 0x2000#14 = 0xE000#16 := by decide
theorem test_sext12_ends : sext12 0x7FF#12 = 0x07FF#16 ∧ sext12 0x800#12 = 0xF800#16 := by decide
theorem test_sext12_negative : sext12 0xFF6#12 = 0xFFF6#16 ∧ s16 (shl16 0xFF6#16 4) = -160 := by decide
theorem test_resolve_priority : resolve32 (splitFaultBits .w0Bit0 0x0001#16 0x0006#16) = some .gndShort ∧
    resolve32 (splitFaultBits .w0Bit0 0x0001#16 0x0008#16) = some .genericFault := by decide

/-- The product is rounded before the addition (V-UC): 10.0 * 1.8f is 18.0. -/
theorem test_fmul32_rounds : fmul32 .binary32 0x41200000#32 0x3FE66666#32 = 0x41900000#32 := by decide
theorem test_fmul32_exact : fmul32 .binary32 0x3E800000#32 0x3FE66666#32 = 0x3EE66666#32 := by decide
/-- Count 1 (internal) in Fahrenheit, and count -71 (thermocouple): cancellation. -/
theorem test_unitF_low_counts : unitF .binary32 (cvtcInt .binary32 1#16) = 0x42007333#32 ∧
    unitF .binary32 (cvtcTc .binary32 (BitVec.ofInt 16 (-71))) = 0x3D4CCE00#32 := by decide
/-- The counts that tell a fused or a wide build from the default (V-UC). -/
theorem test_unitF_not_fused : unitF .binary32 (cvtcTc .binary32 (BitVec.ofInt 16 (-4619))) = 0xC4FFD19A#32 ∧
    unitF .binary32 (cvtcTc .binary32 (BitVec.ofInt 16 (-8189))) = 0xC56450CC#32 := by decide
theorem test_unitK_rounds : unitK .binary32 (cvtcTc .binary32 (BitVec.ofInt 16 (-1093))) = 0xBDCCD000#32 ∧
    unitK .binary32 (cvtcTc .binary32 (BitVec.ofInt 16 (-1604))) = 0xC2FFB334#32 := by decide
theorem test_cvtc_ends : cvtcTc .binary32 (BitVec.ofInt 16 (-8192)) = 0xC5000000#32 ∧
    cvtcInt .binary32 2047#16 = 0x42FFE000#32 := by decide

/-! ## One operation: vectors V-OP -/

/-- A state with a frame on FRAME, CMD driven and START raised, built with the parameters given. -/
def ready (cfg : Config) (cmd : BitVec 4) (bytes : FrameBytes) : State :=
  { State.reset with config := cfg, start := true, cmd := cmd, frame := loadFrame bytes }

/-- A build with the alternative CFLAG_SEL. -/
def w0Build : Config := { cflagSel := .w0Bit0, numerics := .binary32 }

/-- The output ports after one step; none if the step stops. -/
def portsAfter (s : State) : Option Outputs :=
  match step s with
  | .next t => some t.out
  | .fault _ => none
  | .refused _ => none

theorem test_tcraw : portsAfter (ready Config.default 0b0000#4 (.two 0xFF#8 0xFC#8)) =
    some (portsHolding 0#3 (some 0xFFFF#16) none none none none) := by decide
theorem test_tcraw_fault : portsAfter (ready Config.default 0b1100#4 (.two 0x00#8 0x29#8)) =
    some (portsOfFault 1#3) := by decide
theorem test_tccnvC : portsAfter (ready Config.default 0b0010#4 (.two 0x00#8 0x28#8)) =
    some (portsHolding 0#3 none none (some 0x40200000#32) none none) := by decide
theorem test_tccnvF : portsAfter (ready Config.default 0b0110#4 (.two 0x80#8 0x00#8)) =
    some (portsHolding 0#3 none none (some 0xC5646666#32) none none) := by decide
theorem test_tccnvK : portsAfter (ready Config.default 0b1010#4 (.two 0x00#8 0xA0#8)) =
    some (portsHolding 0#3 none none (some 0x438D9333#32) none none) := by decide
theorem test_tccnvK_fault : portsAfter (ready Config.default 0b1010#4 (.two 0x00#8 0xA1#8)) =
    some (portsOfFault 1#3) := by decide
theorem test_allraw : portsAfter (ready Config.default 0b0001#4 (.four 0xF0#8 0x60#8 0xFF#8 0x60#8)) =
    some (portsHolding 0#3 (some 0xFC18#16) (some 0xFFF6#16) none none none) := by decide
theorem test_allraw_gnd_short : portsAfter (ready w0Build 0b0001#4 (.four 0xFF#8 0xFF#8 0xFF#8 0xFE#8)) =
    some (portsOfFault 3#3) := by decide
theorem test_allcnvC : portsAfter (ready Config.default 0b0011#4 (.four 0x01#8 0x90#8 0x19#8 0x00#8)) =
    some (portsHolding 0#3 none none (some 0x41C80000#32) (some 0x41C80000#32) (some 0#2)) := by decide
theorem test_allcnvF : portsAfter (ready Config.default 0b0111#4 (.four 0xF0#8 0x60#8 0xFF#8 0x60#8)) =
    some (portsHolding 0#3 none none (some 0xC3D10000#32) (some 0x41F70000#32) (some 1#2)) := by decide
theorem test_allcnvK : portsAfter (ready Config.default 0b1011#4 (.four 0xF0#8 0x60#8 0xFF#8 0x60#8)) =
    some (portsHolding 0#3 none none (some 0x41B93330#32) (some 0x43884333#32) (some 2#2)) := by decide
theorem test_allcnvK_fault : portsAfter (ready Config.default 0b1011#4 (.four 0x00#8 0x28#8 0x19#8 0x03#8)) =
    some (portsOfFault 2#3) := by decide
theorem test_reserved : portsAfter (ready Config.default 0b1110#4 (.two 0x00#8 0x28#8)) = none := by decide

/-! ## A host's run: programs P2 and P5, shortened -/

/-- A host that has one action to do. -/
def withAction (a : HostAction) : State := { State.reset with env := { Env.reset with todo := [a] } }

/-- A call whose exchange answers at once. -/
def callOf (op : ApiOp) (b0 b1 b2 b3 : Byte) : Call :=
  { op := op, driveLow := .ok, exchange := .blocking 0 (.received b0 b1 b2 b3), driveHigh := .ok }

/-- What the host has at the end of a run: the results, and the chip-select line. -/
def resultsAfter (k : Nat) (s : State) : Option (List ApiResult × Option CsLevel) :=
  match Host.Core.run Sys2Proof.core k s with
  | .next t => some (t.env.results, t.env.cs)
  | .fault _ => none
  | .refused _ => none

theorem test_read_all_celsius : resultsAfter 7 (withAction (.call (callOf (.readAll .celsius) 0xF0#8 0x60#8 0xFF#8 0x60#8))) =
    some ([.ok (.convertedPair 0xC37A0000#32 0xBF200000#32 .celsius)], some .high) := by decide
theorem test_read_fails_in_exchange :
    resultsAfter 3 (withAction (.call { callOf (.readThermocouple .celsius) 0 0 0 0 with
      exchange := .suspending 0 (.error ⟨7⟩) })) = some ([.transport ⟨7⟩], some .low) := by decide

/-! ## Witnesses: a concrete state for the hypotheses of each statement that has some -/

/-- A state at rest whose host has one action to do. -/
theorem withAction_atRest (a : HostAction) : atRest (withAction a) := ⟨rfl, rfl, rfl⟩

theorem witness_DecodeOfEncode : WellFormed .w0Bit0 (.f32w0VccShort 1#14 1#1 2#12 1#1) = true := by decide
theorem witness_EncodeOfDecode :
    decode .w1Bit0 .frame16 [0xFF#8, 0xFE#8] = .instr (.f16Ok 0x3FFF#14 1#1) := by decide
theorem witness_ReservedCommandsRefused :
    (ready Config.default 0b1111#4 (.two 0#8 0#8)).start = true ∧
    (ready Config.default 0b1111#4 (.two 0#8 0#8)).cmd = 0b1111#4 := by decide
theorem witness_SignExtension_negative : 1 ≤ 14 ∧ 14 ≤ 16 ∧ (0x2000#16).toNat < 2 ^ 14 ∧
    (0x2000#16).getLsbD (14 - 1) = true := by decide
theorem witness_SignExtension_full_width : (0xFFFF#16).toNat < 2 ^ 16 := by decide
theorem witness_CountRanges_tc : (dec16 0x8000#16).toOption = some (BitVec.ofInt 16 (-8192)) := by decide
theorem witness_CountRanges_pair : (dec32 .w1Bit0 0x7FFC#16 0x8000#16).toOption =
    some (8191#16, BitVec.ofInt 16 (-2048)) := by decide
theorem witness_CountRoundTrip : isTcCount (BitVec.ofInt 16 (-8192)) = true ∧ isIntCount (BitVec.ofInt 16 (-2048)) = true ∧
    compositeFlag .w0Bit0 (encodeTcWord (BitVec.ofInt 16 (-8192)) 1#1 0#1) (encodeIntWord (BitVec.ofInt 16 (-2048)) 7#4) =
      false := by decide
theorem witness_Dec16_faulted : (word 0x00#8 0x29#8).getLsbD 0 = true := by decide
theorem witness_Dec16_clear : (word 0x00#8 0x2A#8).getLsbD 0 = false := by decide
theorem witness_DefaultFlagArms : isOp32 .allcnvK = true ∧ ∃ t, exec .allcnvK State.reset = .next t :=
  ⟨rfl, _, rfl⟩
theorem witness_IgnoredBits : (0x0028#16).getLsbD 0 = false ∧ (0x0029#16).getLsbD 0 = true ∧
    compositeFlag .w0Bit0 0x0001#16 0x0002#16 = true ∧ compositeFlag .w1Bit0 0x0000#16 0x0001#16 = true := by decide
/-- A reading frame and a faulted frame for the four 16-bit operations. -/
theorem witness_narrow_reading : (frameWord0 (ready Config.default 0b0010#4 (.two 0x00#8 0x28#8))).getLsbD 0 = false ∧
    byteAt (ready Config.default 0b0010#4 (.two 0x00#8 0x28#8)).frame 0 = some 0x00#8 ∧
    byteAt (ready Config.default 0b0010#4 (.two 0x00#8 0x28#8)).frame 1 = some 0x28#8 ∧
    (ready Config.default 0b0010#4 (.two 0x00#8 0x28#8)).config.numerics = .binary32 := by decide
theorem witness_narrow_hot : byteAt (ready Config.default 0b0110#4 (.two 0x00#8 0xA0#8)).frame 0 = some 0x00#8 ∧
    byteAt (ready Config.default 0b0110#4 (.two 0x00#8 0xA0#8)).frame 1 = some 0xA0#8 := by decide
theorem witness_narrow_fault :
    (frameWord0 (ready Config.default 0b0000#4 (.two 0x00#8 0x29#8))).getLsbD 0 = true := by decide
/-- A reading frame and faulted frames for the four 32-bit operations. -/
theorem witness_wide_reading :
    resolve32 (splitFaultBits .w1Bit0 (frameWord0 (ready Config.default 0b0001#4 (.four 0x01#8 0x90#8 0x19#8 0x00#8)))
      (frameWord1 (ready Config.default 0b0001#4 (.four 0x01#8 0x90#8 0x19#8 0x00#8)))) = none ∧
    byteAt (ready Config.default 0b0001#4 (.four 0x01#8 0x90#8 0x19#8 0x00#8)).frame 0 = some 0x01#8 ∧
    byteAt (ready Config.default 0b0001#4 (.four 0x01#8 0x90#8 0x19#8 0x00#8)).frame 1 = some 0x90#8 ∧
    byteAt (ready Config.default 0b0001#4 (.four 0x01#8 0x90#8 0x19#8 0x00#8)).frame 2 = some 0x19#8 ∧
    byteAt (ready Config.default 0b0001#4 (.four 0x01#8 0x90#8 0x19#8 0x00#8)).frame 3 = some 0x00#8 ∧
    (ready Config.default 0b0001#4 (.four 0x01#8 0x90#8 0x19#8 0x00#8)).config.numerics = .binary32 := by decide
theorem witness_wide_fault_default :
    resolve32 (splitFaultBits .w1Bit0 (frameWord0 (ready Config.default 0b0001#4 (.four 0x00#8 0x00#8 0x00#8 0x01#8)))
      (frameWord1 (ready Config.default 0b0001#4 (.four 0x00#8 0x00#8 0x00#8 0x01#8)))) = some .missingTc ∧
    byteAt (ready Config.default 0b0001#4 (.four 0x00#8 0x00#8 0x00#8 0x01#8)).frame 3 = some 0x01#8 := by decide
theorem witness_wide_fault_alternative :
    resolve32 (splitFaultBits .w0Bit0 (frameWord0 (ready w0Build 0b0001#4 (.four 0x00#8 0x01#8 0x00#8 0x04#8)))
      (frameWord1 (ready w0Build 0b0001#4 (.four 0x00#8 0x01#8 0x00#8 0x04#8)))) = some .vccShort := by decide
theorem witness_TakingAFault : isOp16 .tccnvC = true ∧ isOp32 .allcnvF = true := by decide
theorem witness_FaultCauses : isOp16 (.tcraw 0#2) = true ∧ ∃ t, exec (.tcraw 0#2) State.reset = .next t := ⟨rfl, _, rfl⟩
theorem witness_exec_completes : ∃ t, exec (.f32w0GndShort 0#14 0#1 0#12 0#1 0#1) State.reset = .next t := ⟨_, rfl⟩
/-- Two states that differ in their ports and host only. -/
theorem witness_ResultDependsOnInputsOnly :
    State.reset.config = (withAction .reset).config ∧ framePort State.reset = framePort (withAction .reset) ∧
    State.reset ≠ withAction .reset := ⟨rfl, rfl, by decide⟩
/-- Two states that differ in FRAME[15:0]. -/
theorem witness_NarrowModeIgnoresLowHalf :
    (framePort (ready Config.default 0#4 (.four 0#8 0x28#8 1#8 2#8))).extractLsb' 16 16 =
      (framePort (ready Config.default 0#4 (.four 0#8 0x28#8 3#8 4#8))).extractLsb' 16 16 ∧
    framePort (ready Config.default 0#4 (.four 0#8 0x28#8 1#8 2#8)) ≠
      framePort (ready Config.default 0#4 (.four 0#8 0x28#8 3#8 4#8)) := by decide
theorem test_unit_selector_codes : decodeCmd (unitCode .kelvin ++ 0b10#2) = .tccnvK ∧
    decodeCmd (unitCode .fahrenheit ++ 0b11#2) = .allcnvF := by decide
theorem witness_counts : isTcCount 8191#16 = true ∧ isTcCount (BitVec.ofInt 16 (-8192)) = true ∧
    isIntCount 2047#16 = true ∧ isIntCount (BitVec.ofInt 16 (-2048)) = true ∧ isTcCount 8192#16 = false := by decide
theorem witness_finite_operands : isFinite 0x41200000#32 = true ∧ isFinite 0x3FE66666#32 = true ∧
    isFinite (fmul32 .binary32 0x41200000#32 0x3FE66666#32) = true ∧
    isFinite (fadd32 .binary32 0x41200000#32 0x43889333#32) = true := by decide
theorem witness_StepRunsTheCommand :
    decode .w1Bit0 .command [0#4 ++ (ready Config.default 0b0110#4 (.two 0#8 0#8)).cmd] = .instr .tccnvF ∧
    (ready Config.default 0b0110#4 (.two 0#8 0#8)).start = true := by decide
theorem witness_StepRunsTheFrameRow :
    decode .w0Bit0 .frame32 [0x00#8, 0x01#8, 0x00#8, 0x06#8] = .instr (.f32w0GndShort 0#14 0#1 0#12 0#1 1#1) ∧
    byteAt (ready w0Build 0b1101#4 (.four 0x00#8 0x01#8 0x00#8 0x06#8)).frame 3 = some 0x06#8 ∧
    (ready w0Build 0b1101#4 (.four 0x00#8 0x01#8 0x00#8 0x06#8)).cmd = 0b11#2 ++ 0b01#2 := by decide
theorem test_reset_block_fetches :
    State.reset.config.cflagSel = .w1Bit0 ∧ decodeTableWord 8 0b0111 = some .allcnvF := by decide
theorem witness_atRest_nothing_to_do : State.reset.start = false ∧ State.reset.env.phase = .idle ∧
    State.reset.env.resets = [] ∧ State.reset.env.todo = [] := by decide
theorem witness_step_completes : ∃ t, step State.reset = .next t := ⟨_, rfl⟩
/-- A state that raises START in its next step. -/
theorem witness_NothingStartsByItself :
    (setPhase State.reset (.starting .readAllRaw)).start = false ∧
    ∃ t, step (setPhase State.reset (.starting .readAllRaw)) = .next t ∧ t.start = true := ⟨rfl, _, rfl, rfl⟩
/-- A state whose next step writes the buffer. -/
theorem witness_OnlyTheExchangeWritesTheBuffer :
    ∃ t, step (setPhase State.reset (.exchanging (callOf .readAllRaw 1#8 2#8 3#8 4#8) 0)) = .next t ∧
      byteAt t.frame 3 = some 4#8 := ⟨_, rfl, rfl⟩
/-- After a fault TC_COUNT holds no value (10_state R20): a read of it goes on. -/
theorem test_read_of_a_port_that_holds_none :
    ∃ v, step (setOut (withAction (.read .tcCount)) (portsOfFault 2#3)) = .next v := ⟨_, rfl⟩
/-- After reset a read of STATUS faults (70_reset R170), and the machine goes on. -/
theorem test_read_while_not_valid :
    step (withAction (.read .status)) = .next { State.reset with
      draws := 1, env := { Env.reset with reads := [.faulted .status] } } := rfl
/-- A host that has a port to read while the ports hold `o`. -/
def reading (o : Outputs) (port : OutPort) : State := setOut (withAction (.read port)) o
theorem witness_ReadingAnOutputPort : portValue (reading (portsOfFault 2#3) .tcCount).out .tcCount = none ∧
    (reading (portsOfFault 2#3) .tcCount).out.valid = true ∧ (withAction (.read .tcTemp)).out.valid = false ∧
    portValue (reading (portsOfFault 2#3) .status).out .status = some (.status 2#3) ∧
    (withAction (.read .tcTemp)).env.todo = [.read .tcTemp] := by decide
theorem witness_host_actions : (withAction .reset).env.todo = [.reset] ∧
    (withAction (.operate 0b0001#4 (.two 0#8 0#8))).env.todo = [.operate 0b0001#4 (.two 0#8 0#8)] := by decide
/-- The answers of the calls the transaction statements are about. -/
theorem witness_calls : (callOf .readAllRaw 1#8 2#8 3#8 4#8).driveLow = .ok ∧
    exchangeAnswer (callOf .readAllRaw 1#8 2#8 3#8 4#8).exchange = some (.received 1#8 2#8 3#8 4#8) ∧
    exchangeAnswer (.suspending 3 (.error ⟨1⟩)) = some (.error ⟨1⟩) ∧ exchangeAnswer (.cancelled 2) = none ∧
    (withAction (.call (callOf .readAllRaw 1#8 2#8 3#8 4#8))).env.todo = [.call (callOf .readAllRaw 1#8 2#8 3#8 4#8)] := by
  decide
/-- Calls that fail on the low and on the high transition, in a host at rest. -/
theorem witness_failing_calls :
    (withAction (.call { callOf .readAllRaw 1#8 2#8 3#8 4#8 with driveLow := .error ⟨5⟩ })).env.todo =
      [.call { callOf .readAllRaw 1#8 2#8 3#8 4#8 with driveLow := .error ⟨5⟩ }] ∧
    (withAction (.call { callOf .readAllRaw 1#8 2#8 3#8 4#8 with driveHigh := .error ⟨6⟩ })).env.phase = .idle := by decide
/-- A blocking call and the suspending one with the same answers. -/
theorem witness_OneContractForBothModels :
    (callOf .readAllRaw 1#8 2#8 3#8 4#8).exchange = .blocking 0 (.received 1#8 2#8 3#8 4#8) ∧
    withAction (.call { callOf .readAllRaw 1#8 2#8 3#8 4#8 with exchange := .suspending 4 (.received 1#8 2#8 3#8 4#8) }) =
      { withAction (.call (callOf .readAllRaw 1#8 2#8 3#8 4#8)) with
        env := { Env.reset with todo := [.call { callOf .readAllRaw 1#8 2#8 3#8 4#8 with
          exchange := .suspending 4 (.received 1#8 2#8 3#8 4#8) }] } } := by decide
theorem witness_Inv : Inv (withAction (.read .status)) ∧ BusInv (withAction (.read .status)) :=
  ⟨⟨by decide, by decide, by decide⟩, by unfold BusInv; decide⟩
/-- A host in the middle of a call, with resets still to come. -/
def midCall (p : Phase) (resets : List Nat) : State :=
  { State.reset with
    frame := loadFrame (.two 0x00#8 0x28#8), env := { Env.reset with cs := some .high, phase := p, resets := resets } }

/-- A reset that falls inside a call (70_reset R170), due and not yet due. -/
theorem witness_reset_inside_a_call :
    step (midCall (.starting .readThermocoupleRaw) [0]) = .next (midCall (.starting .readThermocoupleRaw) []) ∧
    (midCall (.starting .readThermocoupleRaw) [0]).start = false ∧
    (midCall (.starting .readThermocoupleRaw) [1]).env.resets = [0 + 1] := ⟨rfl, rfl, rfl⟩
/-- A reset before START leaves the call's result as it is. -/
theorem test_reset_before_start : resultsAfter 4 (midCall (.starting .readThermocoupleRaw) [0]) =
    some ([.ok (.raw 10#16)], some .high) := by decide
/-- A reset after the operation takes the result away before the host collects it (70_reset R170). -/
theorem test_reset_before_collecting : resultsAfter 4 (midCall (.starting .readThermocoupleRaw) [1]) =
    some ([], some .high) := by decide
/-- States of the invariant: one that is refused, and one whose result a reset has cleared. -/
theorem witness_StopsOnlyWhenItShould :
    Inv (midCall (.collecting .readThermocoupleRaw) []) ∧
    (midCall (.collecting .readThermocoupleRaw) []).out.valid = false ∧
    step (ready Config.default 0b1111#4 (.two 0#8 0#8)) = .refused .reservedCommand ∧
    Inv (ready Config.default 0b1111#4 (.two 0#8 0#8)) :=
  ⟨⟨by decide, by decide, by decide⟩, rfl, rfl, ⟨by decide, by decide, by decide⟩⟩

end Sys2Proof.Tests
end

section
/-! SUPPORT. What an instruction delivers, as a function of the parameters and the two words of FRAME (10_state R10),
and the state after reset (10_state R28). -/

namespace Sys2Proof.Machine

/-! ## An instruction's outcome -/

/-- What an instruction computes from the parameters and the words of FRAME, by 43_block_operations R126 to R133 and
the rows of 30_encoding R57, R58, R62; a reserved command word has no outcome (R55). Tied to `exec` by
`exec_eq_deliver`. -/
def instrOutcome (cfg : Config) (w0 w1 : Word16) : Instr → Option (Except FaultKind Result)
  | .tcraw _ => some ((dec16 w0).map .raw)
  | .tccnvC => some ((dec16 w0).map fun tc => .converted (unitC (cvtcTc cfg.numerics tc)))
  | .tccnvF => some ((dec16 w0).map fun tc => .converted (unitF cfg.numerics (cvtcTc cfg.numerics tc)))
  | .tccnvK => some ((dec16 w0).map fun tc => .converted (unitK cfg.numerics (cvtcTc cfg.numerics tc)))
  | .allraw _ => some ((dec32 cfg.cflagSel w0 w1).map fun c => .rawPair c.1 c.2)
  | .allcnvC => some ((dec32 cfg.cflagSel w0 w1).map fun c =>
      .convertedPair (unitC (cvtcTc cfg.numerics c.1)) (unitC (cvtcInt cfg.numerics c.2)) .celsius)
  | .allcnvF => some ((dec32 cfg.cflagSel w0 w1).map fun c =>
      .convertedPair (unitF cfg.numerics (cvtcTc cfg.numerics c.1)) (unitF cfg.numerics (cvtcInt cfg.numerics c.2))
        .fahrenheit)
  | .allcnvK => some ((dec32 cfg.cflagSel w0 w1).map fun c =>
      .convertedPair (unitK cfg.numerics (cvtcTc cfg.numerics c.1)) (unitK cfg.numerics (cvtcInt cfg.numerics c.2))
        .kelvin)
  | .reserved _ => none
  | .f16Ok t _ => some (.ok (.raw (sext14 t)))
  | .f32Ok t _ n _ _ | .f32w0Ok t _ n _ _ => some (.ok (.rawPair (sext14 t) (sext12 n)))
  | .f32MissingTc _ _ _ _ _ | .f32w0MissingTc _ _ _ _ _ => some (.error .missingTc)
  | .f32w0GndShort _ _ _ _ _ => some (.error .gndShort)
  | .f32w0VccShort _ _ _ _ => some (.error .vccShort)
  | .f16GenericFault _ _ | .f32w0GenericFault _ _ _ _ => some (.error .genericFault)

/-- How an outcome is delivered in a state: through the output ports, or by refusing the reserved word. -/
def deliver (s : State) : Option (Except FaultKind Result) → Host.Outcome State Fault Refusal
  | none => .refused .reservedCommand
  | some o => .next (finish s o)

/-- Every instruction delivers its outcome, a function of the parameters and FRAME alone (10_state R10). -/
theorem exec_eq_deliver (i : Instr) (s : State) :
    exec i s = deliver s (instrOutcome s.config (frameWord0 s) (frameWord1 s) i) := by
  cases i <;> rfl

/-! ## What delivering depends on -/

/-- The ports after an operation are those of its outcome, whatever state it was delivered in. -/
theorem out_eq_of_deliver {s s' t t' : State} {o : Option (Except FaultKind Result)} (h : deliver s o = .next t)
    (h' : deliver s' o = .next t') : t.out = t'.out := by
  cases o with
  | none => cases h
  | some o =>
    obtain rfl : finish s o = t := Host.Outcome.next.inj h
    obtain rfl : finish s' o = t' := Host.Outcome.next.inj h'
    simp only [finish_eq_setOut, setOut_out]

@[simp] theorem setOut_setOut (s : State) (o o' : Outputs) : setOut (setOut s o) o' = setOut s o' := rfl
@[simp] theorem frameWord0_setOut (s : State) (o : Outputs) : frameWord0 (setOut s o) = frameWord0 s := rfl
@[simp] theorem frameWord1_setOut (s : State) (o : Outputs) : frameWord1 (setOut s o) = frameWord1 s := rfl

/-- Delivering drives every output port, so what the ports held before is gone (10_state R29). -/
@[simp] theorem deliver_setOut (s : State) (p : Outputs) (o : Option (Except FaultKind Result)) :
    deliver (setOut s p) o = deliver s o := by
  cases o with
  | none => rfl
  | some o => simp only [deliver, finish_eq_setOut, setOut_setOut]

/-- No instruction reads an output port. -/
theorem exec_setOut (i : Instr) (s : State) (o : Outputs) : exec i (setOut s o) = exec i s := by
  simp only [exec_eq_deliver, deliver_setOut, setOut_config, frameWord0_setOut, frameWord1_setOut]

/-! ## FRAME and its words -/

/-- The upper half of FRAME is `W0` (20_memory R33). -/
@[simp] theorem framePort_upper (s : State) : (framePort s).extractLsb' 16 16 = frameWord0 s :=
  BitVec.extractLsb'_append_eq_left

/-- The lower half of FRAME is `W1` (20_memory R33). -/
@[simp] theorem framePort_lower (s : State) : (framePort s).extractLsb' 0 16 = frameWord1 s :=
  BitVec.extractLsb'_append_eq_right

theorem frameWord0_eq_of_framePort_eq {s s' : State} (h : framePort s = framePort s') :
    frameWord0 s = frameWord0 s' := by
  rw [← framePort_upper, ← framePort_upper, h]

theorem frameWord1_eq_of_framePort_eq {s s' : State} (h : framePort s = framePort s') :
    frameWord1 s = frameWord1 s' := by
  rw [← framePort_lower, ← framePort_lower, h]

/-! ## The obligations -/

/-- Settles O31: both runs deliver the same outcome (`exec_eq_deliver`), and the operation before it left only ports,
which no instruction reads. -/
theorem resultDependsOnInputsOnly : Obligations.ResultDependsOnInputsOnly := by
  unfold Obligations.ResultDependsOnInputsOnly
  constructor
  · intro i s s' t t' hcfg hframe h h'
    rw [exec_eq_deliver] at h h'
    rw [hcfg, frameWord0_eq_of_framePort_eq hframe, frameWord1_eq_of_framePort_eq hframe] at h
    exact out_eq_of_deliver h h'
  · intro i j s t h
    rw [exec_cases h, exec_setOut]

/-- Settles O47: a reset of the block drives the output ports alone. -/
theorem resetState : Obligations.ResetState := by
  unfold Obligations.ResetState
  exact ⟨rfl, rfl, rfl, rfl, rfl, rfl, rfl, rfl, fun s => setOut_config s Outputs.reset⟩

end Sys2Proof.Machine
end

section
/-! SUPPORT. The command word (30_encoding R54, R55): what decoding it gives for each value of CMD[1:0], and what the
raw operations and the reserved words do with UNIT. -/

namespace Sys2Proof

/-! ## Decoding a command word -/

/-- With CONV = 0 the operation is a raw one, WIDE says which, and UNIT is only its operand (30_encoding R54, R55). -/
theorem decodeCmd_of_conv_clear (unit : BitVec 2) {low : BitVec 2} (hconv : low.getLsbD 1 = false) :
    decodeCmd (unit ++ low) = if low.getLsbD 0 then .allraw unit else .tcraw unit := by
  have hunit : (unit ++ low).extractLsb' 2 2 = unit := BitVec.extractLsb'_append_eq_left
  have hbit1 : (unit ++ low).getLsbD 1 = low.getLsbD 1 := BitVec.getLsbD_append
  have hbit0 : (unit ++ low).getLsbD 0 = low.getLsbD 0 := BitVec.getLsbD_append
  unfold decodeCmd
  rw [hunit, hbit1, hbit0, hconv]
  cases low.getLsbD 0 <;> rfl

/-- `0bxx00` is TCRAW (30_encoding R54). -/
@[simp] theorem decodeCmd_unit_append_00 (unit : BitVec 2) : decodeCmd (unit ++ 0b00#2) = .tcraw unit :=
  decodeCmd_of_conv_clear unit rfl

/-- `0bxx01` is ALLRAW (30_encoding R54). -/
@[simp] theorem decodeCmd_unit_append_01 (unit : BitVec 2) : decodeCmd (unit ++ 0b01#2) = .allraw unit :=
  decodeCmd_of_conv_clear unit rfl

@[simp] theorem decodeCmd_1110 : decodeCmd 0b1110#4 = .reserved 0#1 := rfl
@[simp] theorem decodeCmd_1111 : decodeCmd 0b1111#4 = .reserved 1#1 := rfl

end Sys2Proof

namespace Sys2Proof.Machine

/-! ## Executing a command word -/

/-- A reserved word has no outcome to deliver (30_encoding R55). -/
@[simp] theorem exec_reserved (wide : BitVec 1) (s : State) :
    exec (.reserved wide) s = .refused .reservedCommand :=
  exec_eq_deliver (.reserved wide) s

/-- A step that runs a reserved word is refused (30_encoding R55). -/
theorem step_of_reserved {s : State} {wide : BitVec 1} (hstart : s.start = true)
    (hcmd : decodeCmd s.cmd = .reserved wide) : step s = .refused .reservedCommand := by
  rw [step_of_start hstart, hcmd, exec_reserved, withAfter_refused]

/-- TCRAW completes with the outcome of `dec16`, whatever UNIT is (43_block_operations R126). -/
theorem exec_tcraw (unit : BitVec 2) (s : State) :
    exec (.tcraw unit) s = .next (finish s ((dec16 (frameWord0 s)).map .raw)) :=
  exec_eq_deliver (.tcraw unit) s

/-- ALLRAW completes with the outcome of `dec32`, whatever UNIT is (43_block_operations R130). -/
theorem exec_allraw (unit : BitVec 2) (s : State) :
    exec (.allraw unit) s = .next (finish s
      ((dec32 s.config.cflagSel (frameWord0 s) (frameWord1 s)).map fun c => .rawPair c.1 c.2)) :=
  exec_eq_deliver (.allraw unit) s

/-! ## The obligations -/

/-- Settles O1: the raw rows for every UNIT are `decodeCmd_unit_append_00` and `decodeCmd_unit_append_01`; each other
row is one word, which the decoder evaluates. -/
theorem commandWordsDecode : Obligations.CommandWordsDecode := by
  unfold Obligations.CommandWordsDecode
  exact ⟨decodeCmd_unit_append_00, rfl, rfl, rfl, decodeCmd_unit_append_01, rfl, rfl, rfl,
    decodeCmd_1110, decodeCmd_1111⟩

/-- Settles O6: both reserved words decode to an instruction with no outcome, and the outcome of a raw operation does
not mention UNIT (`exec_tcraw`, `exec_allraw`). -/
theorem reservedCommandsRefused : Obligations.ReservedCommandsRefused := by
  unfold Obligations.ReservedCommandsRefused
  refine ⟨exec_reserved, ?step, ?narrow, ?wide⟩
  case step =>
    rintro s hstart (hcmd | hcmd)
    · exact step_of_reserved hstart (hcmd ▸ decodeCmd_1110)
    · exact step_of_reserved hstart (hcmd ▸ decodeCmd_1111)
  case narrow =>
    intro x y s
    rw [decodeCmd_unit_append_00, decodeCmd_unit_append_00]
    exact ⟨_, exec_tcraw x s, exec_tcraw y s⟩
  case wide =>
    intro x y s
    rw [decodeCmd_unit_append_01, decodeCmd_unit_append_01]
    exact ⟨_, exec_allraw x s, exec_allraw y s⟩

end Sys2Proof.Machine
end

section
/-! SUPPORT. The Frame Decoder's sign extension (40_frame_decoder R69 to R72): the two paths of `count_of_field` are
`BitVec.signExtend` for every width, so the counts inherit their range and their sign copies from the library. -/

namespace Sys2Proof.Machine

/-! ## The integer primitives (00_scope R8) -/

theorem s16_eq_toInt (w : Word16) : s16 w = w.toInt := by
  rw [BitVec.toInt_eq_msb_cond, BitVec.msb_eq_getLsbD_last]
  rfl

/-- A division that leaves no remainder gives the quotient, whatever the signs. -/
theorem sdiv_mul_left (a : Int) {d : Nat} (hd : d ≠ 0) : sdiv (d * a) d = a :=
  Int.mul_tdiv_cancel_left a (Int.ofNat_ne_zero.mpr hd)

/-! ## Sign extension from `len` bits (40_frame_decoder R72) -/

/-- A word below `2^len` is a field of `len` bits, widened. -/
theorem exists_setWidth_of_lt {len : Nat} {field : Word16} (hlt : field.toNat < 2 ^ len) :
    ∃ f : BitVec len, field = f.setWidth 16 := by
  refine ⟨field.setWidth len, BitVec.eq_of_toNat_eq ?_⟩
  rw [BitVec.toNat_setWidth, BitVec.toNat_setWidth, Nat.mod_eq_of_lt hlt, Nat.mod_eq_of_lt field.isLt]

/-- The bit that `count_of_field` tests is the field's sign bit. -/
theorem getLsbD_setWidth_sub_one {len : Nat} (hle : len ≤ 16) (f : BitVec len) :
    (f.setWidth 16).getLsbD (len - 1) = f.msb := by
  have hbit : len - 1 < 16 := by omega
  rw [BitVec.getLsbD_setWidth, BitVec.msb_eq_getLsbD_last, decide_eq_true hbit, Bool.true_and]

/-- Shifted up against bit 15, a field keeps its sign and is multiplied by the divisor: no bit of it is lost. -/
theorem s16_shl16_setWidth {len : Nat} (hpos : 1 ≤ len) (hle : len ≤ 16) (f : BitVec len) :
    s16 (shl16 (f.setWidth 16) (16 - len)) = (2 ^ (16 - len) : Nat) * f.toInt := by
  have hpow : 2 ^ (16 - len) * 2 ^ len = 2 ^ 16 := pow_sub_mul_pow 2 hle
  have heven : 2 ∣ 2 ^ len := dvd_pow_self 2 (by omega)
  calc s16 (shl16 (f.setWidth 16) (16 - len))
      = ((2 ^ (16 - len) * f.toNat : Nat) : Int).bmod (2 ^ (16 - len) * 2 ^ len) := by
        rw [s16_eq_toInt, shl16, BitVec.toNat_setWidth_of_le hle, BitVec.toInt_ofNat', hpow, Nat.mul_comm]
    _ = (2 ^ (16 - len) : Nat) * f.toInt := by
        rw [Nat.cast_mul, Int.mod_bmod_mul_of_pos _ _ (Nat.two_pow_pos _) heven, ← BitVec.toInt_eq_toNat_bmod]

/-- Both paths of `count_of_field` are sign extension from the field's width (40_frame_decoder R72). -/
theorem countOfField_setWidth {len : Nat} (hpos : 1 ≤ len) (hle : len ≤ 16) (f : BitVec len) :
    countOfField (f.setWidth 16) len (2 ^ (16 - len)) (16 - len) = f.signExtend 16 := by
  rw [countOfField, getLsbD_setWidth_sub_one hle]
  cases hsign : f.msb with
  | false => exact (BitVec.signExtend_eq_setWidth_of_msb_false hsign).symm
  | true =>
    rw [if_pos rfl, s16_shl16_setWidth hpos hle, sdiv_mul_left _ (Nat.two_pow_pos _).ne',
      ← BitVec.toInt_signExtend_of_le hle, BitVec.ofInt_toInt]

/-- `SEXT14` is two's complement from 14 bits (40_frame_decoder R70). -/
theorem sext14_eq_signExtend (f : BitVec 14) : sext14 f = f.signExtend 16 :=
  countOfField_setWidth (by decide) (by decide) f

/-- `SEXT12` is two's complement from 12 bits (40_frame_decoder R71). -/
theorem sext12_eq_signExtend (f : BitVec 12) : sext12 f = f.signExtend 16 :=
  countOfField_setWidth (by decide) (by decide) f

/-- Settles O7: a field of `len` bits is sign-extended (`countOfField_setWidth`), so the count has the field's own
two's complement value, and what is divided is that value times the divisor (`s16_shl16_setWidth`). -/
theorem signExtensionIsTwosComplement : Obligations.SignExtensionIsTwosComplement := by
  unfold Obligations.SignExtensionIsTwosComplement
  intro len field hpos hle hlt
  obtain ⟨f, rfl⟩ := exists_setWidth_of_lt hlt
  constructor
  · rw [countOfField_setWidth hpos hle, BitVec.toInt_signExtend_of_le hle, getLsbD_setWidth_sub_one hle,
      BitVec.toNat_setWidth_of_le hle, BitVec.toInt_eq_msb_cond, Nat.cast_pow, Nat.cast_two]
  · intro _
    rw [s16_shl16_setWidth hpos hle]
    exact dvd_mul_right _ _

end Sys2Proof.Machine
end

section
/-! SUPPORT. The fields of a frame's words (40_frame_decoder R67, R68) and the counts they hold: the layout of
30_encoding R61 gives a count back, and the counts lie in the ranges of 40_frame_decoder R82. -/

namespace Sys2Proof.Machine

/-! ## Fields of the layout (30_encoding R61) -/

@[simp] theorem xtc_encodeTcWord (c : Count) (r fault : BitVec 1) :
    xtc (encodeTcWord c r fault) = c.setWidth 14 := by
  rw [xtc, encodeTcWord, BitVec.extractLsb'_append_eq_of_le (by decide), BitVec.extractLsb'_append_eq_left,
    BitVec.setWidth_eq_extractLsb' (by decide)]

@[simp] theorem xint_encodeIntWord (d : Count) (low : BitVec 4) : xint (encodeIntWord d low) = d.setWidth 12 := by
  rw [xint, encodeIntWord, BitVec.extractLsb'_append_eq_left, BitVec.setWidth_eq_extractLsb' (by decide)]

@[simp] theorem gflag_encodeTcWord (c : Count) (r fault : BitVec 1) :
    gflag (encodeTcWord c r fault) = fault.getLsbD 0 :=
  BitVec.getLsbD_append

/-- With both candidate bits clear there is no fault, whichever of them the block takes for its flag. -/
theorem compositeFlag_encode_zero (sel : CflagSel) (c d : Count) :
    compositeFlag sel (encodeTcWord c 0#1 0#1) (encodeIntWord d 0#4) = false := by
  cases sel with
  | w1Bit0 => exact BitVec.getLsbD_append
  | w0Bit0 => exact gflag_encodeTcWord c 0#1 0#1

/-! ## A count and its lowest bits -/

section
variable {n : Nat} (hn : n ≤ 16) (c : Count)
include hn

/-- The field of `n` bits cut from a count is the count mod `2^n` (30_encoding R61). -/
theorem toNat_setWidth_eq_toInt_emod : (c.setWidth n).toNat = (c.toInt % (2 ^ n : Nat)).toNat := by
  have hdvd : ((2 ^ n : Nat) : Int) ∣ (2 ^ 16 : Nat) := Int.natCast_dvd_natCast.mpr (pow_dvd_pow 2 hn)
  rw [BitVec.toNat_setWidth, BitVec.toInt_eq_toNat_bmod, ← Int.emod_emod_of_dvd _ hdvd, Int.bmod_emod,
    Int.emod_emod_of_dvd _ hdvd, ← Int.natCast_emod, Int.toNat_natCast]

/-- A count that fits in `n` bits is the sign extension of its lowest `n` bits. -/
theorem signExtend_setWidth_of_range (hlo : -2 ^ n ≤ c.toInt * 2) (hhi : c.toInt * 2 < 2 ^ n) :
    (c.setWidth n).signExtend 16 = c := by
  apply BitVec.eq_of_toInt_eq
  calc ((c.setWidth n).signExtend 16).toInt
      = (c.toNat : Int).bmod (2 ^ n) := by rw [BitVec.toInt_signExtend_of_le hn, BitVec.toInt_setWidth]
    _ = c.toInt.bmod (2 ^ n) := by
        rw [BitVec.toInt_eq_toNat_bmod, Int.bmod_bmod_of_dvd (pow_dvd_pow 2 hn)]
    _ = c.toInt := Int.bmod_eq_of_le_mul_two (mod_cast hlo) (mod_cast hhi)

end

theorem isTcCount_iff {c : Count} : isTcCount c = true ↔ -8192 ≤ c.toInt ∧ c.toInt ≤ 8191 := decide_eq_true_iff

theorem isIntCount_iff {c : Count} : isIntCount c = true ↔ -2048 ≤ c.toInt ∧ c.toInt ≤ 2047 := decide_eq_true_iff

theorem sext14_setWidth_of_isTcCount {c : Count} (h : isTcCount c = true) : sext14 (c.setWidth 14) = c := by
  obtain ⟨hlo, hhi⟩ := isTcCount_iff.mp h
  rw [sext14_eq_signExtend]
  exact signExtend_setWidth_of_range (by decide) c (by omega) (by omega)

theorem sext12_setWidth_of_isIntCount {c : Count} (h : isIntCount c = true) : sext12 (c.setWidth 12) = c := by
  obtain ⟨hlo, hhi⟩ := isIntCount_iff.mp h
  rw [sext12_eq_signExtend]
  exact signExtend_setWidth_of_range (by decide) c (by omega) (by omega)

/-- A count in range comes back from its F16 word with the fault bit clear (40_frame_decoder R83). -/
theorem dec16_encodeTcWord {c : Count} (r : BitVec 1) (hc : isTcCount c = true) :
    dec16 (encodeTcWord c r 0#1) = .ok c := by
  rw [dec16_clear (gflag_encodeTcWord c r 0#1), xtc_encodeTcWord, sext14_setWidth_of_isTcCount hc]

/-- Two counts in range come back from their F32 words with the composite flag clear (40_frame_decoder R83). -/
theorem dec32_encode {sel : CflagSel} {c d : Count} {r f : BitVec 1} {low : BitVec 4} (hc : isTcCount c = true)
    (hd : isIntCount d = true) (hflag : compositeFlag sel (encodeTcWord c r f) (encodeIntWord d low) = false) :
    dec32 sel (encodeTcWord c r f) (encodeIntWord d low) = .ok (c, d) := by
  rw [dec32_clear (resolve32_clear hflag), xtc_encodeTcWord, xint_encodeIntWord, sext14_setWidth_of_isTcCount hc,
    sext12_setWidth_of_isIntCount hd]

/-- Settles O9: the layout's field is the count's lowest bits, which in range sign-extend back to it
(`dec16_encodeTcWord`, `dec32_encode`). -/
theorem countRoundTrip : Obligations.CountRoundTrip := by
  unfold Obligations.CountRoundTrip
  constructor
  · intro c r hc
    rw [xtc_encodeTcWord]
    exact ⟨toNat_setWidth_eq_toInt_emod (by decide) c, dec16_encodeTcWord r hc⟩
  · intro sel c d r f low hc hd
    rw [xint_encodeIntWord]
    exact ⟨toNat_setWidth_eq_toInt_emod (by decide) d, dec32_encode hc hd⟩

/-! ## The ranges of the counts (40_frame_decoder R82) -/

theorem sext14_mem_range (f : BitVec 14) : -8192 ≤ (sext14 f).toInt ∧ (sext14 f).toInt ≤ 8191 := by
  rw [sext14_eq_signExtend, BitVec.toInt_signExtend_of_le (by decide)]
  exact ⟨f.le_toInt, Int.le_of_lt_add_one f.toInt_lt⟩

theorem sext12_mem_range (f : BitVec 12) : -2048 ≤ (sext12 f).toInt ∧ (sext12 f).toInt ≤ 2047 := by
  rw [sext12_eq_signExtend, BitVec.toInt_signExtend_of_le (by decide)]
  exact ⟨f.le_toInt, Int.le_of_lt_add_one f.toInt_lt⟩

/-- From its field's sign bit up, a sign-extended count repeats that bit. -/
theorem getLsbD_signExtend_of_sign_le {n i : Nat} (hn : 0 < n) (f : BitVec n) (hlo : n - 1 ≤ i) (hhi : i ≤ 15) :
    (f.signExtend 16).getLsbD i = f.msb := by
  rw [BitVec.getLsbD_signExtend, decide_eq_true (by omega : i < 16), Bool.true_and]
  split
  · rw [BitVec.msb_eq_getLsbD_last, show i = n - 1 by omega]
  · rfl

theorem getLsbD_sext14_of_sign_le (f : BitVec 14) {i : Nat} (hlo : 13 ≤ i) (hhi : i ≤ 15) :
    (sext14 f).getLsbD i = (sext14 f).getLsbD 13 := by
  rw [sext14_eq_signExtend, getLsbD_signExtend_of_sign_le (by decide) f hlo hhi,
    getLsbD_signExtend_of_sign_le (by decide) f le_rfl (by decide)]

theorem getLsbD_sext12_of_sign_le (f : BitVec 12) {i : Nat} (hlo : 11 ≤ i) (hhi : i ≤ 15) :
    (sext12 f).getLsbD i = (sext12 f).getLsbD 11 := by
  rw [sext12_eq_signExtend, getLsbD_signExtend_of_sign_le (by decide) f hlo hhi,
    getLsbD_signExtend_of_sign_le (by decide) f le_rfl (by decide)]

theorem isTcCount_ofInt {c : Int} (hlo : -8192 ≤ c) (hhi : c ≤ 8191) : isTcCount (BitVec.ofInt 16 c) = true := by
  rw [isTcCount_iff, BitVec.toInt_ofInt_eq_self (by decide) (by omega) (by omega)]
  exact ⟨hlo, hhi⟩

theorem isIntCount_ofInt {d : Int} (hlo : -2048 ≤ d) (hhi : d ≤ 2047) : isIntCount (BitVec.ofInt 16 d) = true := by
  rw [isIntCount_iff, BitVec.toInt_ofInt_eq_self (by decide) (by omega) (by omega)]
  exact ⟨hlo, hhi⟩

/-- A reading of `dec16` comes from a clear flag. -/
theorem dec16_eq_ok {w : Word16} {tc : Count} (h : dec16 w = .ok tc) : tc = sext14 (xtc w) := by
  cases hflag : gflag w with
  | true => rw [dec16_faulted hflag] at h; cases h
  | false => rw [dec16_clear hflag] at h; cases h; rfl

/-- A reading of `dec32` comes from no fault. -/
theorem dec32_eq_ok {sel : CflagSel} {w0 w1 : Word16} {tc int : Count} (h : dec32 sel w0 w1 = .ok (tc, int)) :
    tc = sext14 (xtc w0) ∧ int = sext12 (xint w1) := by
  cases hfault : resolve32 (splitFaultBits sel w0 w1) with
  | some k => rw [dec32_faulted hfault] at h; cases h
  | none => rw [dec32_clear hfault] at h; cases h; exact ⟨rfl, rfl⟩

/-- Settles O8: a reading is a sign-extended field, and each count in range comes from the layout of 30_encoding R61
(`dec16_encodeTcWord`, `dec32_encode`). -/
theorem countRanges : Obligations.CountRanges := by
  unfold Obligations.CountRanges
  refine ⟨?range16, ?range32, ?reach16, ?reach32⟩
  case range16 =>
    intro w tc h
    obtain rfl := dec16_eq_ok h
    obtain ⟨hlo, hhi⟩ := sext14_mem_range (xtc w)
    exact ⟨hlo, hhi, fun i => getLsbD_sext14_of_sign_le _⟩
  case range32 =>
    intro sel w0 w1 tc int h
    obtain ⟨rfl, rfl⟩ := dec32_eq_ok h
    obtain ⟨htclo, htchi⟩ := sext14_mem_range (xtc w0)
    obtain ⟨hintlo, hinthi⟩ := sext12_mem_range (xint w1)
    exact ⟨htclo, htchi, hintlo, hinthi, fun i => getLsbD_sext14_of_sign_le _,
      fun i => getLsbD_sext12_of_sign_le _⟩
  case reach16 =>
    intro c hlo hhi
    exact ⟨_, dec16_encodeTcWord 0#1 (isTcCount_ofInt hlo hhi)⟩
  case reach32 =>
    intro sel c d hclo hchi hdlo hdhi
    exact ⟨_, _, dec32_encode (isTcCount_ofInt hclo hchi) (isIntCount_ofInt hdlo hdhi)
      (compositeFlag_encode_zero sel _ _)⟩

end Sys2Proof.Machine
end

section
/-! SUPPORT. The outcomes of `DEC16` and `DEC32` as functions of the words (40_frame_decoder R77, R80, R81), and the
bits on which they do not depend (R84). -/

namespace Sys2Proof.Machine

/-! ## The outcomes in closed form -/

/-- With the composite flag set the fault is the first of the three causes whose bit is set, else the generic one
(40_frame_decoder R75). -/
theorem resolve32_of_cflag {b : FaultBits} (h : b.cflag = true) :
    resolve32 b = some (if b.oc then .missingTc else if b.scg then .gndShort else if b.scv then .vccShort
      else .genericFault) := by
  simp only [resolve32, h, Bool.not_true, Bool.false_eq_true, if_false, apply_ite some]

/-- Under the default CFLAG_SEL the composite flag is the missing-thermocouple bit, so a fault is always that one
(40_frame_decoder R80). -/
theorem dec32_w1Bit0 (w0 w1 : Word16) :
    dec32 .w1Bit0 w0 w1 =
      if w1.getLsbD 0 then .error .missingTc else .ok (sext14 (xtc w0), sext12 (xint w1)) := by
  cases hflag : w1.getLsbD 0 with
  | false => exact dec32_clear (resolve32_clear hflag)
  | true =>
    rw [dec32_faulted (resolve32_of_cflag (b := splitFaultBits .w1Bit0 w0 w1) hflag), splitFaultBits, hflag]
    rfl

/-- Under the alternative CFLAG_SEL the flag is another bit than the three causes, and each cause is reported in its
priority (40_frame_decoder R81). -/
theorem dec32_w0Bit0 (w0 w1 : Word16) :
    dec32 .w0Bit0 w0 w1 =
      if w0.getLsbD 0 = false then .ok (sext14 (xtc w0), sext12 (xint w1))
      else if w1.getLsbD 0 then .error .missingTc
      else if w1.getLsbD 1 then .error .gndShort
      else if w1.getLsbD 2 then .error .vccShort
      else .error .genericFault := by
  cases hflag : w0.getLsbD 0 with
  | false => exact dec32_clear (resolve32_clear hflag)
  | true =>
    rw [dec32_faulted (resolve32_of_cflag (b := splitFaultBits .w0Bit0 w0 w1) hflag), splitFaultBits]
    simp only [apply_ite Except.error, Bool.true_eq_false, if_false]

/-! ## What an outcome depends on -/

theorem dec16_congr {w w' : Word16} (hflag : gflag w' = gflag w) (hfield : xtc w' = xtc w) : dec16 w' = dec16 w := by
  rw [dec16, dec16, hflag, hfield]

theorem dec32_congr {sel : CflagSel} {w0 w0' w1 w1' : Word16}
    (hbits : splitFaultBits sel w0' w1' = splitFaultBits sel w0 w1) (htc : xtc w0' = xtc w0)
    (hint : xint w1' = xint w1) : dec32 sel w0' w1' = dec32 sel w0 w1 := by
  rw [dec32, dec32, hbits, htc, hint]

/-- In a faulted frame the fields do not count (40_frame_decoder R76). -/
theorem dec32_congr_of_faulted {sel : CflagSel} {w0 w0' w1 w1' : Word16}
    (hbits : splitFaultBits sel w0' w1' = splitFaultBits sel w0 w1) (hflag : compositeFlag sel w0 w1 = true) :
    dec32 sel w0' w1' = dec32 sel w0 w1 := by
  obtain ⟨k, hk⟩ := resolve32_set (b := splitFaultBits sel w0 w1) hflag
  rw [dec32_faulted hk, dec32_faulted (hbits ▸ hk)]

/-! ## Flipping bits of a word

A flip is `w ^^^ m`, where `m` holds the bits to flip; bits of a fixed `mask` only are flipped by `w ^^^ (m &&& mask)`. -/

theorem getLsbD_xor_of_clear {m : Word16} {i : Nat} (hm : m.getLsbD i = false) (w : Word16) :
    (w ^^^ m).getLsbD i = w.getLsbD i := by
  rw [BitVec.getLsbD_xor, hm, Bool.xor_false]

theorem getLsbD_and_of_clear {mask : Word16} {i : Nat} (hmask : mask.getLsbD i = false) (m : Word16) :
    (m &&& mask).getLsbD i = false := by
  rw [BitVec.getLsbD_and, hmask, Bool.and_false]

theorem xtc_xor_of_zero {m : Word16} (hm : xtc m = 0#14) (w : Word16) : xtc (w ^^^ m) = xtc w := by
  have hxor : xtc (w ^^^ m) = xtc w ^^^ xtc m := BitVec.extractLsb'_xor
  rw [hxor, hm, BitVec.xor_zero]

theorem xint_xor_of_zero {m : Word16} (hm : xint m = 0#12) (w : Word16) : xint (w ^^^ m) = xint w := by
  have hxor : xint (w ^^^ m) = xint w ^^^ xint m := BitVec.extractLsb'_xor
  rw [hxor, hm, BitVec.xor_zero]

theorem xint_and_of_zero {mask : Word16} (hmask : xint mask = 0#12) (m : Word16) : xint (m &&& mask) = 0#12 := by
  have hand : xint (m &&& mask) = xint m &&& xint mask := BitVec.extractLsb'_and
  rw [hand, hmask, BitVec.and_zero]

/-- Of the first word the splitter reads bit 0 at most (40_frame_decoder R74). -/
theorem splitFaultBits_xor_left {m : Word16} (hm : m.getLsbD 0 = false) (sel : CflagSel) (w0 w1 : Word16) :
    splitFaultBits sel (w0 ^^^ m) w1 = splitFaultBits sel w0 w1 := by
  cases sel with
  | w1Bit0 => rfl
  | w0Bit0 => rw [splitFaultBits, splitFaultBits, compositeFlag, compositeFlag, getLsbD_xor_of_clear hm]

/-- Of the second word the splitter reads bits 2:0 (40_frame_decoder R74). -/
theorem splitFaultBits_xor_right {m : Word16} (hm : ∀ i < 3, m.getLsbD i = false) (sel : CflagSel) (w0 w1 : Word16) :
    splitFaultBits sel w0 (w1 ^^^ m) = splitFaultBits sel w0 w1 := by
  have hbit : ∀ i < 3, (w1 ^^^ m).getLsbD i = w1.getLsbD i := fun i hi => getLsbD_xor_of_clear (hm i hi) w1
  have hflag : compositeFlag sel w0 (w1 ^^^ m) = compositeFlag sel w0 w1 := by
    cases sel with
    | w1Bit0 => exact hbit 0 (by decide)
    | w0Bit0 => rfl
  rw [splitFaultBits, splitFaultBits, hflag, hbit 0 (by decide), hbit 1 (by decide), hbit 2 (by decide)]

theorem dec16_xor_bit1 (w : Word16) : dec16 (w ^^^ 0x0002#16) = dec16 w :=
  dec16_congr (getLsbD_xor_of_clear (by decide) w) (xtc_xor_of_zero (by decide) w)

/-! ## STATUS of a 32-bit mode operation -/

/-- A 32-bit mode operation decodes the 4-byte frame and delivers what it makes of the counts
(43_block_operations R125). -/
theorem exec_of_isOp32 {i : Instr} (hi : isOp32 i = true) (s : State) :
    ∃ f : Count × Count → Result, exec i s =
      .next (finish s ((dec32 s.config.cflagSel (frameWord0 s) (frameWord1 s)).map f)) := by
  cases i with
  | allraw _ | allcnvC | allcnvF | allcnvK => exact ⟨_, exec_eq_deliver _ s⟩
  | _ => cases hi

theorem resultOutputs_status (r : Result) : (resultOutputs r).status = some 0#3 := by
  cases r <;> rfl

/-! ## The obligations -/

/-- Settles O10: the flag decides between the two outcomes (`dec16_faulted`, `dec16_clear`), and the words of the rule
are evaluated. -/
theorem dec16Outcomes : Obligations.Dec16Outcomes := by
  unfold Obligations.Dec16Outcomes
  refine ⟨fun _ _ => dec16_faulted, fun _ _ => dec16_clear, dec16_xor_bit1, ?faulted,
    rfl, rfl, rfl, rfl, rfl, rfl, rfl, rfl⟩
  case faulted =>
    intro w w' h h'
    rw [dec16_faulted h, dec16_faulted h']

/-- Settles O12: the closed form is `dec32_w1Bit0`; an operation's STATUS is that outcome's. -/
theorem defaultFlagArms : Obligations.DefaultFlagArms := by
  unfold Obligations.DefaultFlagArms
  refine ⟨dec32_w1Bit0, rfl, rfl, rfl, ?status⟩
  case status =>
    intro i s t hi hsel h
    obtain ⟨f, hexec⟩ := exec_of_isOp32 hi s
    obtain rfl := Host.Outcome.next.inj (hexec.symm.trans h)
    rw [hsel, dec32_w1Bit0]
    cases (frameWord1 s).getLsbD 0 with
    | true => exact .inr rfl
    | false => exact .inl (resultOutputs_status _)

/-- Settles O13: the closed form is `dec32_w0Bit0`; DOC0's bytes are evaluated under both values. -/
theorem alternativeFlagArms : Obligations.AlternativeFlagArms := by
  unfold Obligations.AlternativeFlagArms
  exact ⟨dec32_w0Bit0, rfl, rfl⟩

/-- Settles O14: a flip outside the fields and the bits the splitter reads changes neither (`dec16_congr`,
`dec32_congr`); the splitter's own bits drop out of the closed forms where R84 says so; and a faulted frame's fields
do not count (`dec32_congr_of_faulted`). -/
theorem ignoredBits : Obligations.IgnoredBits := by
  unfold Obligations.IgnoredBits
  refine ⟨dec16_xor_bit1, ?unmentioned, ?default, ?alternative, ?faulted16, ?faulted32⟩
  case unmentioned =>
    intro sel w0 w1
    exact ⟨dec32_congr (splitFaultBits_xor_left (by decide) sel w0 w1) (xtc_xor_of_zero (by decide) w0) rfl,
      dec32_congr (splitFaultBits_xor_right (by decide) sel w0 w1) rfl (xint_xor_of_zero (by decide) w1)⟩
  case default =>
    intro w0 w1 m
    have htc : xtc (w0 ^^^ 0x0001#16) = xtc w0 := xtc_xor_of_zero (by decide) w0
    have hflag : (w1 ^^^ (m &&& 0x0006#16)).getLsbD 0 = w1.getLsbD 0 :=
      getLsbD_xor_of_clear (getLsbD_and_of_clear (by decide) m) w1
    have hint : xint (w1 ^^^ (m &&& 0x0006#16)) = xint w1 :=
      xint_xor_of_zero (xint_and_of_zero (by decide) m) w1
    simp only [dec32_w1Bit0, htc, hflag, hint, and_self]
  case alternative =>
    intro w0 w1 m hflag
    have hint : xint (w1 ^^^ (m &&& 0x0007#16)) = xint w1 :=
      xint_xor_of_zero (xint_and_of_zero (by decide) m) w1
    simp only [dec32_w0Bit0, hflag, hint, if_true]
  case faulted16 =>
    intro w m h
    have hflag : gflag (w ^^^ (m &&& 0xFFFC#16)) = gflag w :=
      getLsbD_xor_of_clear (getLsbD_and_of_clear (by decide) m) w
    rw [dec16_faulted h, dec16_faulted (hflag.trans h)]
  case faulted32 =>
    intro sel w0 w1 m0 m1 hflag
    have hclear : ∀ i < 3, (0xFFF0#16).getLsbD i = false := by decide
    refine dec32_congr_of_faulted ?_ hflag
    rw [splitFaultBits_xor_left (getLsbD_and_of_clear (by decide) m0),
      splitFaultBits_xor_right fun i hi => getLsbD_and_of_clear (hclear i hi) m1]

end Sys2Proof.Machine
end

section
/-! SUPPORT. The default NUMERICS as arithmetic on rational numbers (41_unit_converter R98, R99): the value of a
pattern, and each function's result as a rounding (`RoundsTo`) of the exact one. -/

namespace Sys2Proof.Machine

/-! ## The value of a pattern -/

/-- The sign bit as a factor. -/
def signFactor (neg : Bool) : ℚ := if neg then -1 else 1

@[simp] theorem signFactor_true : signFactor true = -1 := rfl
@[simp] theorem signFactor_false : signFactor false = 1 := rfl

@[simp] theorem abs_signFactor (neg : Bool) : |signFactor neg| = 1 := by cases neg <;> simp

theorem signFactor_bne (a b : Bool) : signFactor (a != b) = signFactor a * signFactor b := by
  cases a <;> cases b <;> simp

theorem isFinite_of_unpack {a : Temp} {neg : Bool} {mag : Nat} {exp : Int} (h : unpack a = .finite neg mag exp) :
    isFinite a = true := by
  unfold isFinite
  rw [h]

theorem f32Value_of_unpack {a : Temp} {neg : Bool} {mag : Nat} {exp : Int} (h : unpack a = .finite neg mag exp) :
    f32Value a = signFactor neg * (mag : ℚ) * (2 : ℚ) ^ exp := by
  unfold f32Value
  rw [h]
  rfl

/-- A finite pattern has a 24-bit magnitude and an exponent of at least -149 (41_unit_converter R98). -/
theorem unpack_of_isFinite {a : Temp} (h : isFinite a = true) :
    ∃ neg mag exp, unpack a = .finite neg mag exp ∧ mag < 2 ^ 24 ∧ -149 ≤ exp := by
  have hfrac : (a.extractLsb' 0 23).toNat < 2 ^ 23 := (a.extractLsb' 0 23).isLt
  unfold isFinite at h
  cases hu : unpack a with
  | infinite neg => rw [hu] at h; cases h
  | nan => rw [hu] at h; cases h
  | finite neg mag exp =>
    refine ⟨_, _, _, rfl, ?_⟩
    unfold unpack at hu
    dsimp only at hu
    split_ifs at hu <;> injection hu <;> omega

theorem toNat_packBits {neg : Bool} {bits : Nat} (h : bits ≤ 0x7F800000) :
    (packBits neg bits).toNat = bits + if neg then 2 ^ 31 else 0 := by
  unfold packBits
  rw [BitVec.toNat_ofNat, min_eq_left h]
  cases neg <;> simp <;> omega

/-- The fields of a pattern packed from its exponent field `e` and its fraction `f`. -/
theorem unpack_packBits {neg : Bool} {e f : Nat} (he : e < 255) (hf : f < 2 ^ 23) :
    unpack (packBits neg (e * 2 ^ 23 + f)) =
      if e = 0 then .finite neg f (-149) else .finite neg (2 ^ 23 + f) ((e : Int) - 150) := by
  have hbits : (packBits neg (e * 2 ^ 23 + f)).toNat = (e * 2 ^ 23 + f) + if neg then 2 ^ 31 else 0 :=
    toNat_packBits (by omega)
  have hsign : (packBits neg (e * 2 ^ 23 + f)).getLsbD 31 = neg := by
    rw [← BitVec.testBit_toNat, hbits, Nat.testBit_eq_decide_div_mod_eq]
    cases neg <;> simp <;> omega
  have hexp : ((packBits neg (e * 2 ^ 23 + f)).extractLsb' 23 8).toNat = e := by
    rw [BitVec.extractLsb'_toNat, Nat.shiftRight_eq_div_pow, hbits]
    cases neg <;> simp <;> omega
  have hfrac : ((packBits neg (e * 2 ^ 23 + f)).extractLsb' 0 23).toNat = f := by
    rw [BitVec.extractLsb'_toNat, Nat.shiftRight_zero, hbits]
    cases neg <;> simp <;> omega
  simp only [unpack, hsign, hexp, hfrac, he.ne, if_false]

/-- An even significand leaves the last fraction bit 0. -/
theorem getLsbD_packBits {neg : Bool} {e n : Nat} (h : e * 2 ^ 23 + n ≤ 0x7F800000) (heven : n % 2 = 0) :
    (packBits neg (e * 2 ^ 23 + n)).getLsbD 0 = false := by
  rw [← BitVec.testBit_toNat, toNat_packBits h, Nat.testBit_zero]
  cases neg <;> simp <;> omega

/-- A significand `n` on the exponent field `e`, the carry out of the fraction included: it stands for
`n * 2^(e - 149)`. -/
theorem unpack_packBits_significand {neg : Bool} {e n : Nat} (hbits : e * 2 ^ 23 + n < 0x7F800000) (hn : n ≤ 2 ^ 24)
    (hnormal : e = 0 ∨ 2 ^ 23 ≤ n) :
    ∃ mag exp, unpack (packBits neg (e * 2 ^ 23 + n)) = .finite neg mag exp ∧
      (mag : ℚ) * (2 : ℚ) ^ exp = n * (2 : ℚ) ^ ((e : Int) - 149) := by
  rcases Nat.lt_or_ge n (2 ^ 23) with hlow | hhigh
  · obtain rfl : e = 0 := by omega
    exact ⟨n, -149, by rw [unpack_packBits (by omega) hlow, if_pos rfl], by simp⟩
  rcases Nat.lt_or_ge n (2 ^ 24) with hmid | hcarry
  · refine ⟨n, (e : Int) - 149, ?_, rfl⟩
    rw [show e * 2 ^ 23 + n = (e + 1) * 2 ^ 23 + (n - 2 ^ 23) by omega, unpack_packBits (by omega) (by omega),
      if_neg (by omega), show 2 ^ 23 + (n - 2 ^ 23) = n by omega,
      show ((e + 1 : Nat) : Int) - 150 = e - 149 by omega]
  · obtain rfl : n = 2 ^ 24 := by omega
    refine ⟨2 ^ 23, (e : Int) - 149 + 1, ?_, ?_⟩
    · rw [show e * 2 ^ 23 + 2 ^ 24 = (e + 2) * 2 ^ 23 + 0 by omega, unpack_packBits (by omega) (by omega),
        if_neg (by omega), show ((e + 2 : Nat) : Int) - 150 = e - 149 + 1 by omega, Nat.add_zero]
    · rw [zpow_add_one₀ (by norm_num)]
      push_cast
      ring

/-! ## One rounding -/

/-- `roundShift` is the quotient rounded to nearest, and even on a tie. -/
theorem roundShift_spec (m d : Nat) :
    2 * m ≤ 2 * (roundShift m d * 2 ^ d) + 2 ^ d ∧ 2 * (roundShift m d * 2 ^ d) ≤ 2 * m + 2 ^ d ∧
    ((2 * m = 2 * (roundShift m d * 2 ^ d) + 2 ^ d ∨ 2 * (roundShift m d * 2 ^ d) = 2 * m + 2 ^ d) →
      roundShift m d % 2 = 0) := by
  have hdiv : 2 ^ d * (m / 2 ^ d) + m % 2 ^ d = m := Nat.div_add_mod m (2 ^ d)
  have hmod : m % 2 ^ d < 2 ^ d := Nat.mod_lt m (by positivity)
  unfold roundShift
  dsimp only
  generalize 2 ^ d = p at *
  generalize m / p = q at *
  generalize m % p = r at *
  split_ifs with hup
  · rw [Nat.add_mul, one_mul, Nat.mul_comm q p]
    omega
  · rw [Nat.mul_comm q p]
    omega

/-- The integer that `roundBits` puts on the exponent field of `quantum`. -/
def significand (mag : Nat) (exp : Int) : Nat :=
  if quantum mag exp ≤ exp then mag * 2 ^ (exp - quantum mag exp).toNat
  else roundShift mag (quantum mag exp - exp).toNat

theorem roundBits_eq (mag : Nat) (exp : Int) :
    roundBits mag exp = (quantum mag exp + 149).toNat * 2 ^ 23 + significand mag exp := rfl

theorem le_quantum (mag : Nat) (exp : Int) : -149 ≤ quantum mag exp := le_max_right _ _

theorem zpow_eq_natCast_mul {a b : ℤ} (h : b ≤ a) :
    (2 : ℚ) ^ a = ((2 ^ (a - b).toNat : Nat) : ℚ) * (2 : ℚ) ^ b := by
  have hexp : ((a - b).toNat : ℤ) + b = a := by omega
  push_cast
  rw [← zpow_natCast (2 : ℚ), ← zpow_add₀ (by norm_num), hexp]

/-- A multiple of a larger power of two is a multiple of a smaller one. -/
theorem natCast_mul_zpow_eq (m : Nat) {a b : ℤ} (h : b ≤ a) :
    (m : ℚ) * (2 : ℚ) ^ a = ((m * 2 ^ (a - b).toNat : Nat) : ℚ) * (2 : ℚ) ^ b := by
  rw [zpow_eq_natCast_mul h, Nat.cast_mul, mul_assoc]

theorem exists_mul_zpow_of_le (k : ℤ) {a b : ℤ} (h : b ≤ a) :
    ∃ j : ℤ, (k : ℚ) * (2 : ℚ) ^ a = j * (2 : ℚ) ^ b := by
  refine ⟨k * (2 ^ (a - b).toNat : Nat), ?_⟩
  rw [zpow_eq_natCast_mul h, Int.cast_mul, Int.cast_natCast, mul_assoc]

/-- The value lies below 24 bits of its quantum. -/
theorem lt_zpow_quantum (mag : Nat) (exp : Int) : (mag : ℚ) * (2 : ℚ) ^ exp < (2 : ℚ) ^ (quantum mag exp + 24) := by
  have hlog : (mag : ℚ) < (2 : ℚ) ^ ((Nat.log2 mag : Int) + 1) := by exact_mod_cast Nat.lt_log2_self (n := mag)
  calc (mag : ℚ) * (2 : ℚ) ^ exp < (2 : ℚ) ^ ((Nat.log2 mag : Int) + 1) * (2 : ℚ) ^ exp := by gcongr
    _ = (2 : ℚ) ^ ((Nat.log2 mag : Int) + 1 + exp) := (zpow_add₀ (by norm_num) _ _).symm
    _ ≤ (2 : ℚ) ^ (quantum mag exp + 24) := by
      have hq : (Nat.log2 mag : Int) + exp - 23 ≤ quantum mag exp := le_max_left _ _
      exact zpow_le_zpow_right₀ (by norm_num) (by omega)

/-- Unless the quantum is the smallest one, the value fills 24 bits of it. -/
theorem zpow_quantum_le {mag : Nat} (hmag : mag ≠ 0) (exp : Int) :
    quantum mag exp = -149 ∨ (2 : ℚ) ^ (quantum mag exp + 23) ≤ (mag : ℚ) * (2 : ℚ) ^ exp := by
  rcases max_choice ((Nat.log2 mag : Int) + exp - 23) (-149) with hq | hq
  · right
    have hlog : (2 : ℚ) ^ (Nat.log2 mag : Int) ≤ mag := by exact_mod_cast Nat.log2_self_le hmag
    calc (2 : ℚ) ^ (quantum mag exp + 23) = (2 : ℚ) ^ (Nat.log2 mag : Int) * (2 : ℚ) ^ exp := by
          rw [← zpow_add₀ (by norm_num), quantum, hq]
          congr 1
          omega
      _ ≤ (mag : ℚ) * (2 : ℚ) ^ exp := by gcongr
  · exact .inl hq

/-- The significand is the value in steps of the quantum, to the nearest integer and to the even one on a tie. -/
theorem significand_spec (mag : Nat) (exp : Int) :
    |significand mag exp * (2 : ℚ) ^ quantum mag exp - mag * (2 : ℚ) ^ exp| ≤ (2 : ℚ) ^ quantum mag exp / 2 ∧
    (|significand mag exp * (2 : ℚ) ^ quantum mag exp - mag * (2 : ℚ) ^ exp| = (2 : ℚ) ^ quantum mag exp / 2 →
      significand mag exp % 2 = 0) := by
  rcases le_or_gt (quantum mag exp) exp with hle | hlt
  · rw [significand, if_pos hle, ← natCast_mul_zpow_eq mag hle, sub_self, abs_zero]
    exact ⟨by positivity, fun h => absurd h (by positivity)⟩
  · obtain ⟨hlo, hhi, htie⟩ := roundShift_spec mag (quantum mag exp - exp).toNat
    rw [significand, if_neg hlt.not_ge]
    have hstep := zpow_eq_natCast_mul hlt.le
    generalize roundShift mag (quantum mag exp - exp).toNat = n at *
    generalize 2 ^ (quantum mag exp - exp).toNat = p at *
    have hw : (0 : ℚ) < (2 : ℚ) ^ exp := by positivity
    have hlo' : (2 * mag : ℚ) ≤ 2 * (n * p) + p := by exact_mod_cast hlo
    have hhi' : (2 * (n * p) : ℚ) ≤ 2 * mag + p := by exact_mod_cast hhi
    rw [hstep, ← mul_assoc, ← sub_mul, abs_mul, abs_of_pos hw, mul_div_right_comm, mul_le_mul_iff_left₀ hw,
      mul_left_inj' hw.ne']
    refine ⟨abs_le.mpr ⟨by linarith, by linarith⟩, fun h => htie ?_⟩
    rcases eq_or_eq_neg_of_abs_eq h with h | h
    · right
      have : (2 * (n * p) : ℚ) = 2 * mag + p := by linarith
      exact_mod_cast this
    · left
      have : (2 * mag : ℚ) = 2 * (n * p) + p := by linarith
      exact_mod_cast this

theorem significand_le (mag : Nat) (exp : Int) : significand mag exp ≤ 2 ^ 24 := by
  have hpos : (0 : ℚ) < (2 : ℚ) ^ quantum mag exp := by positivity
  have hlt := lt_zpow_quantum mag exp
  rw [zpow_add₀ (by norm_num), mul_comm] at hlt
  have hnear := (abs_le.mp (significand_spec mag exp).1).2
  by_contra! hgt
  have hgt' : (2 ^ 24 + 1 : ℚ) ≤ significand mag exp := by exact_mod_cast hgt
  have := mul_le_mul_of_nonneg_right hgt' hpos.le
  norm_num at hlt this
  linarith

theorem le_significand {mag : Nat} {exp : Int} (h : (2 : ℚ) ^ (quantum mag exp + 23) ≤ (mag : ℚ) * (2 : ℚ) ^ exp) :
    2 ^ 23 ≤ significand mag exp := by
  have hpos : (0 : ℚ) < (2 : ℚ) ^ quantum mag exp := by positivity
  rw [zpow_add₀ (by norm_num), mul_comm] at h
  have hnear := (abs_le.mp (significand_spec mag exp).1).1
  by_contra! hlt
  have hlt' : (significand mag exp : ℚ) ≤ 2 ^ 23 - 1 := by
    have : (significand mag exp : ℚ) + 1 ≤ 2 ^ 23 := by exact_mod_cast hlt
    linarith
  have := mul_le_mul_of_nonneg_right hlt' hpos.le
  norm_num at h this
  linarith

/-- `r` is a binary32 that stands for `x` rounded to nearest even (41_unit_converter R99): an integer number of steps
`2^q`, no farther than half a step, the last fraction bit 0 on a tie; and `x` fills at most 24 bits of the step, and
all 24 unless the step is the smallest one. -/
def RoundsTo (x : ℚ) (r : Temp) : Prop :=
  isFinite r = true ∧ ∃ n q : ℤ, f32Value r = n * (2 : ℚ) ^ q ∧ |n * (2 : ℚ) ^ q - x| ≤ (2 : ℚ) ^ q / 2 ∧
    (|n * (2 : ℚ) ^ q - x| = (2 : ℚ) ^ q / 2 → r.getLsbD 0 = false) ∧
    -149 ≤ q ∧ |x| < (2 : ℚ) ^ (q + 24) ∧ (q = -149 ∨ (2 : ℚ) ^ (q + 23) ≤ |x|)

theorem abs_signFactor_mul_sub (neg : Bool) (a b : ℚ) : |signFactor neg * a - signFactor neg * b| = |a - b| := by
  rw [← mul_sub, abs_mul, abs_signFactor, one_mul]

theorem packBits_roundBits_roundsTo (neg : Bool) {mag : Nat} {exp : Int} (hmag : mag ≠ 0)
    (hbits : roundBits mag exp < 0x7F800000) :
    RoundsTo (signFactor neg * (mag * (2 : ℚ) ^ exp)) (packBits neg (roundBits mag exp)) := by
  obtain ⟨hnear, htie⟩ := significand_spec mag exp
  have hlt := lt_zpow_quantum mag exp
  have hge := zpow_quantum_le hmag exp
  have hq := le_quantum mag exp
  have habs : |signFactor neg * (mag * (2 : ℚ) ^ exp)| = mag * (2 : ℚ) ^ exp := by
    rw [abs_mul, abs_signFactor, one_mul, abs_of_nonneg (by positivity)]
  have hlower : (quantum mag exp + 149).toNat = 0 ∨ 2 ^ 23 ≤ significand mag exp :=
    hge.imp (by omega) le_significand
  obtain ⟨m, e, hunpack, hvalue⟩ :=
    unpack_packBits_significand (neg := neg) (roundBits_eq mag exp ▸ hbits) (significand_le mag exp) hlower
  rw [show ((quantum mag exp + 149).toNat : ℤ) - 149 = quantum mag exp by omega] at hvalue
  rw [← roundBits_eq] at hunpack
  refine ⟨isFinite_of_unpack hunpack, (if neg then -1 else 1) * significand mag exp, quantum mag exp, ?_⟩
  have hsigned : (((if neg then -1 else 1) * (significand mag exp : ℤ) : ℤ) : ℚ) * (2 : ℚ) ^ quantum mag exp =
      signFactor neg * (significand mag exp * (2 : ℚ) ^ quantum mag exp) := by
    cases neg <;> simp
  rw [hsigned, abs_signFactor_mul_sub, habs, f32Value_of_unpack hunpack, mul_assoc, hvalue]
  refine ⟨rfl, hnear, fun h => ?_, hq, hlt, hge⟩
  rw [roundBits_eq] at hbits ⊢
  exact getLsbD_packBits hbits.le (htie h)

theorem roundBits_lt {mag : Nat} {exp : Int} (hmag : mag ≠ 0) (h : mag * (2 : ℚ) ^ exp < (2 : ℚ) ^ (127 : ℤ)) :
    roundBits mag exp < 0x7F800000 := by
  have hq : quantum mag exp < 104 := by
    rcases zpow_quantum_le hmag exp with hq | hq
    · omega
    · have := (zpow_lt_zpow_iff_right₀ (by norm_num)).mp (hq.trans_lt h)
      omega
  have hn := significand_le mag exp
  have hlow := le_quantum mag exp
  rw [roundBits_eq]
  omega

theorem packBits_zero_roundsTo (neg : Bool) : RoundsTo 0 (packBits neg 0) := by
  have hunpack : unpack (packBits neg 0) = .finite neg 0 (-149) := by cases neg <;> decide
  refine ⟨isFinite_of_unpack hunpack, 0, -149, ?_, ?_, fun h => ?_, le_refl _, ?_, .inl rfl⟩
  · simp [f32Value_of_unpack hunpack]
  · norm_num
  · norm_num at h
  · norm_num

/-- One rounding of the default NUMERICS, away from overflow. -/
theorem roundPack_roundsTo {x : ℚ} {neg : Bool} {mag : Nat} {exp : Int}
    (hx : x = signFactor neg * (mag * (2 : ℚ) ^ exp)) (h : |x| < (2 : ℚ) ^ (127 : ℤ)) :
    RoundsTo x (roundPack neg mag exp) := by
  rw [hx, abs_mul, abs_signFactor, one_mul, abs_of_nonneg (by positivity)] at h
  subst hx
  unfold roundPack
  split_ifs with hzero
  · simpa [hzero] using packBits_zero_roundsTo neg
  · exact packBits_roundBits_roundsTo neg hzero (roundBits_lt hzero h)

theorem signFactor_mul_natAbs {neg : Bool} {k : ℤ} (h : k ≠ 0 → neg = decide (k < 0)) :
    signFactor neg * (k.natAbs : ℚ) = k := by
  rw [← Int.cast_natCast, Int.natCast_natAbs]
  rcases lt_trichotomy k 0 with hk | rfl | hk
  · simp [h hk.ne, hk, abs_of_neg hk]
  · simp
  · simp [h hk.ne', hk.not_gt, abs_of_pos hk]

/-! ## The functions of NUMERICS (41_unit_converter R99) -/

theorem abs_toInt_le (c : Count) : |(c.toInt : ℚ)| ≤ 2 ^ 15 := by
  have hlo := BitVec.le_toInt c
  have hhi := BitVec.toInt_lt (x := c)
  rw [← Int.cast_abs]
  exact_mod_cast abs_le.mpr ⟨hlo, hhi.le⟩

theorem i16ToBinary32_roundsTo (c : Count) : RoundsTo c.toInt (i16ToBinary32 c) := by
  refine roundPack_roundsTo ?_ ((abs_toInt_le c).trans_lt (by norm_num))
  rw [zpow_zero, mul_one, signFactor_mul_natAbs fun _ => rfl]

/-- The product of two finite operands is rounded once. -/
theorem fmulBinary32_eq_roundPack {a b : Temp} (ha : isFinite a = true) (hb : isFinite b = true) :
    ∃ neg mag exp, fmulBinary32 a b = roundPack neg mag exp ∧
      f32Value a * f32Value b = signFactor neg * (mag * (2 : ℚ) ^ exp) := by
  obtain ⟨na, ma, ea, hua, -, -⟩ := unpack_of_isFinite ha
  obtain ⟨nb, mb, eb, hub, -, -⟩ := unpack_of_isFinite hb
  refine ⟨na != nb, ma * mb, ea + eb, ?_, ?_⟩
  · unfold fmulBinary32
    rw [hua, hub]
  · rw [f32Value_of_unpack hua, f32Value_of_unpack hub, signFactor_bne, zpow_add₀ (by norm_num)]
    push_cast
    ring

theorem fmulBinary32_roundsTo {a b : Temp} (ha : isFinite a = true) (hb : isFinite b = true)
    (h : |f32Value a * f32Value b| < (2 : ℚ) ^ (127 : ℤ)) : RoundsTo (f32Value a * f32Value b) (fmulBinary32 a b) := by
  obtain ⟨neg, mag, exp, hround, hvalue⟩ := fmulBinary32_eq_roundPack ha hb
  rw [hround]
  exact roundPack_roundsTo hvalue h

theorem scaled_mul_zpow (neg : Bool) (mag : Nat) {exp low : Int} (h : low ≤ exp) :
    (scaled neg mag exp low : ℚ) * (2 : ℚ) ^ low = signFactor neg * mag * (2 : ℚ) ^ exp := by
  rw [mul_assoc, natCast_mul_zpow_eq mag h]
  unfold scaled
  cases neg <;> simp

/-- The sum of two finite operands is rounded once. -/
theorem faddBinary32_eq_roundPack {a b : Temp} (ha : isFinite a = true) (hb : isFinite b = true) :
    ∃ neg mag exp, faddBinary32 a b = roundPack neg mag exp ∧
      f32Value a + f32Value b = signFactor neg * (mag * (2 : ℚ) ^ exp) := by
  obtain ⟨na, ma, ea, hua, -, -⟩ := unpack_of_isFinite ha
  obtain ⟨nb, mb, eb, hub, -, -⟩ := unpack_of_isFinite hb
  refine ⟨_, _, min ea eb, by unfold faddBinary32; rw [hua, hub], ?_⟩
  rw [← mul_assoc, signFactor_mul_natAbs fun hsum => if_neg hsum, f32Value_of_unpack hua, f32Value_of_unpack hub,
    ← scaled_mul_zpow na ma (min_le_left ea eb), ← scaled_mul_zpow nb mb (min_le_right ea eb)]
  push_cast
  ring

theorem faddBinary32_roundsTo {a b : Temp} (ha : isFinite a = true) (hb : isFinite b = true)
    (h : |f32Value a + f32Value b| < (2 : ℚ) ^ (127 : ℤ)) : RoundsTo (f32Value a + f32Value b) (faddBinary32 a b) := by
  obtain ⟨neg, mag, exp, hround, hvalue⟩ := faddBinary32_eq_roundPack ha hb
  rw [hround]
  exact roundPack_roundsTo hvalue h

end Sys2Proof.Machine
end

section
/-! SUPPORT. What a rounding gives: its error, when it is exact, and that it is the nearest pattern
(41_unit_converter R99); the constants of the default NUMERICS (R99, R100). -/

namespace Sys2Proof.Machine

/-! ## What a rounding gives -/

theorem RoundsTo.finite {x : ℚ} {r : Temp} (h : RoundsTo x r) : isFinite r = true := h.1

theorem le_of_zpow_lt {a b : ℤ} {x : ℚ} (hlo : (2 : ℚ) ^ a ≤ x) (hhi : x < (2 : ℚ) ^ (b + 1)) : a ≤ b :=
  Int.lt_add_one_iff.mp ((zpow_lt_zpow_iff_right₀ one_lt_two).mp (hlo.trans_lt hhi))

/-- Two multiples of a step that are less than the step apart are one. -/
theorem eq_of_abs_sub_lt {n k : ℤ} {g : ℚ} (hg : 0 < g) (h : |n * g - k * g| < g) : n = k := by
  rw [← sub_mul, abs_mul, abs_of_pos hg, mul_lt_iff_lt_one_left hg] at h
  have : |n - k| < 1 := by exact_mod_cast h
  exact sub_eq_zero.mp (Int.abs_lt_one_iff.mp this)

/-- The step of a rounding is not larger than one of which the value fills at most 24 bits. -/
theorem roundingStep_le {x : ℚ} {q e : ℤ} (hfull : q = -149 ∨ (2 : ℚ) ^ (q + 23) ≤ |x|) (he : -149 ≤ e)
    (hx : |x| < (2 : ℚ) ^ (e + 24)) : q ≤ e := by
  rcases hfull with rfl | hfull
  · exact he
  · have := le_of_zpow_lt (b := e + 23) hfull (by rwa [add_assoc])
    omega

/-- Below 24 bits of a step the rounding is off by half of that step at most. -/
theorem RoundsTo.abs_sub_le {x : ℚ} {r : Temp} (h : RoundsTo x r) {e : ℤ} (he : -149 ≤ e)
    (hx : |x| < (2 : ℚ) ^ (e + 24)) : |f32Value r - x| ≤ (2 : ℚ) ^ e / 2 := by
  obtain ⟨-, n, q, hvalue, hnear, -, -, -, hfull⟩ := h
  have hstep : (2 : ℚ) ^ q ≤ (2 : ℚ) ^ e := zpow_le_zpow_right₀ one_le_two (roundingStep_le hfull he hx)
  rw [hvalue]
  linarith

/-- Below 24 bits of a step a multiple of it is represented exactly. -/
theorem RoundsTo.eq_of_mul_zpow {k e : ℤ} {r : Temp} (h : RoundsTo (k * (2 : ℚ) ^ e) r) (he : -149 ≤ e)
    (hx : |(k : ℚ) * (2 : ℚ) ^ e| < (2 : ℚ) ^ (e + 24)) : f32Value r = k * (2 : ℚ) ^ e := by
  obtain ⟨-, n, q, hvalue, hnear, -, -, -, hfull⟩ := h
  obtain ⟨j, hj⟩ := exists_mul_zpow_of_le k (roundingStep_le hfull he hx)
  rw [hj] at hnear ⊢
  have hg : (0 : ℚ) < (2 : ℚ) ^ q := by positivity
  rw [hvalue, eq_of_abs_sub_lt hg (hnear.trans_lt (half_lt_self hg))]

/-- A value that fills 24 bits of a step is rounded to a multiple of it. -/
theorem RoundsTo.exists_mul_zpow {x : ℚ} {r : Temp} (h : RoundsTo x r) {e : ℤ} (hx : (2 : ℚ) ^ (e + 23) ≤ |x|) :
    ∃ k : ℤ, f32Value r = k * (2 : ℚ) ^ e := by
  obtain ⟨-, n, q, hvalue, -, -, -, hlt, -⟩ := h
  have hqe := le_of_zpow_lt (b := q + 23) hx (by rwa [add_assoc])
  rw [hvalue]
  exact exists_mul_zpow_of_le n (by omega)

/-! ## The nearest pattern -/

/-- A finite pattern is a multiple of each step of which its value fills 24 bits, and of the smallest step. -/
theorem exists_mul_zpow_of_isFinite {y : Temp} (h : isFinite y = true) {q : ℤ}
    (hq : q = -149 ∨ (2 : ℚ) ^ (q + 23) ≤ |f32Value y|) : ∃ k : ℤ, f32Value y = k * (2 : ℚ) ^ q := by
  obtain ⟨neg, mag, exp, hunpack, hmag, hexp⟩ := unpack_of_isFinite h
  have hvalue := f32Value_of_unpack hunpack
  have hqe : q ≤ exp := by
    rcases hq with rfl | hq
    · exact hexp
    · rw [hvalue, mul_assoc, abs_mul, abs_signFactor, one_mul, abs_of_nonneg (by positivity)] at hq
      have hlt : (mag : ℚ) * (2 : ℚ) ^ exp < (2 : ℚ) ^ (exp + 23 + 1) := by
        rw [add_assoc, add_comm, zpow_add₀ (by norm_num)]
        gcongr
        exact_mod_cast hmag
      have := le_of_zpow_lt hq hlt
      omega
  obtain ⟨k, hk⟩ := exists_mul_zpow_of_le (if neg then -mag else mag) hqe
  refine ⟨k, ?_⟩
  rw [hvalue, ← hk]
  cases neg <;> simp

/-- No multiple of a step is nearer to a value than one within half a step of it; as near is only one at half a
step. -/
theorem abs_sub_le_of_half {n : ℤ} {g x : ℚ} (hg : 0 < g) (hn : |n * g - x| ≤ g / 2) (k : ℤ) :
    |n * g - x| ≤ |k * g - x| ∧ (k ≠ n → |k * g - x| = |n * g - x| → |n * g - x| = g / 2) := by
  rcases eq_or_ne k n with rfl | hne
  · exact ⟨le_refl _, fun h => absurd rfl h⟩
  · have hfar : g / 2 ≤ |k * g - x| := by
      by_contra! hlt
      have htri := abs_sub_le (k * g) x (n * g)
      rw [abs_sub_comm x] at htri
      exact hne (eq_of_abs_sub_lt hg (by linarith))
    exact ⟨hn.trans hfar, fun _ heq => hn.antisymm (heq ▸ hfar)⟩

/-- Some multiple of a power of two is nearer to a value beyond it than any value short of it. -/
theorem exists_zpow_nearer {q : ℤ} {x y : ℚ} (hy : |y| < (2 : ℚ) ^ (q + 23)) (hx : (2 : ℚ) ^ (q + 23) ≤ |x|) :
    ∃ k : ℤ, |k * (2 : ℚ) ^ q - x| < |y - x| := by
  rw [zpow_add₀ (by norm_num), mul_comm] at hx hy
  obtain ⟨hylo, hyhi⟩ := abs_lt.mp hy
  rcases le_abs'.mp hx with hneg | hpos
  · refine ⟨-2 ^ 23, ?_⟩
    push_cast
    rw [abs_of_nonneg, abs_of_nonneg]
    all_goals
      norm_num at *
      linarith
  · refine ⟨2 ^ 23, ?_⟩
    push_cast
    rw [abs_of_nonpos, abs_of_nonpos]
    all_goals
      norm_num at *
      linarith

/-- A rounding is the nearest pattern, the even one of two (41_unit_converter R99). -/
theorem RoundsTo.isNearestEven {x : ℚ} {r : Temp} (h : RoundsTo x r) : IsNearestEven x r := by
  obtain ⟨hfinite, n, q, hvalue, hnear, htie, -, -, hfull⟩ := h
  have hbest : ∀ y : Temp, isFinite y = true → |f32Value r - x| ≤ |f32Value y - x| ∧
      (f32Value y ≠ f32Value r → |f32Value y - x| = |f32Value r - x| → r.getLsbD 0 = false) := by
    intro y hy
    have hgrid := abs_sub_le_of_half (by positivity) hnear
    rw [hvalue]
    by_cases hstep : q = -149 ∨ (2 : ℚ) ^ (q + 23) ≤ |f32Value y|
    · obtain ⟨k, hk⟩ := exists_mul_zpow_of_isFinite hy hstep
      rw [hk]
      exact ⟨(hgrid k).1, fun hne heq => htie ((hgrid k).2 (fun hkn => hne (by rw [hkn])) heq)⟩
    · push Not at hstep
      obtain ⟨k, hk⟩ := exists_zpow_nearer hstep.2 (hfull.resolve_left hstep.1)
      have hlt := (hgrid k).1.trans_lt hk
      exact ⟨hlt.le, fun _ heq => absurd heq hlt.ne'⟩
  exact ⟨hfinite, fun y hy => (hbest y hy).1, fun y hy => (hbest y hy).2⟩

/-! ## The constants and the count (41_unit_converter R99, R100) -/

theorem unpack_fMul : unpack Config.fMul = .finite false 15099494 (-23) := by decide
theorem unpack_fAdd : unpack Config.fAdd = .finite false 8388608 (-18) := by decide
theorem unpack_kAdd : unpack Config.kAdd = .finite false 8950579 (-15) := by decide
theorem unpack_scaleTc : unpack Config.scaleTc = .finite false 8388608 (-25) := by decide
theorem unpack_scaleInt : unpack Config.scaleInt = .finite false 8388608 (-27) := by decide

theorem f32Value_fMul : f32Value Config.fMul = 15099494 / 8388608 := by
  rw [f32Value_of_unpack unpack_fMul]
  norm_num

theorem f32Value_fAdd : f32Value Config.fAdd = 32 := by
  rw [f32Value_of_unpack unpack_fAdd]
  norm_num

theorem f32Value_kAdd : f32Value Config.kAdd = 8950579 / 32768 := by
  rw [f32Value_of_unpack unpack_kAdd]
  norm_num

theorem f32Value_scaleTc : f32Value Config.scaleTc = (2 : ℚ) ^ (-2 : ℤ) := by
  rw [f32Value_of_unpack unpack_scaleTc]
  norm_num

theorem f32Value_scaleInt : f32Value Config.scaleInt = (2 : ℚ) ^ (-4 : ℤ) := by
  rw [f32Value_of_unpack unpack_scaleInt]
  norm_num

theorem fMul_roundsTo : RoundsTo (9 / 5) Config.fMul := by
  refine ⟨isFinite_of_unpack unpack_fMul, 15099494, -23, ?_⟩
  rw [f32Value_fMul]
  norm_num [abs_of_pos, abs_of_neg]

theorem kAdd_roundsTo : RoundsTo (5463 / 20) Config.kAdd := by
  refine ⟨isFinite_of_unpack unpack_kAdd, 8950579, -15, ?_⟩
  rw [f32Value_kAdd]
  norm_num [abs_of_pos, abs_of_neg]

/-- The default `i16_to_f32` is exact (41_unit_converter R99). -/
theorem f32Value_i16ToBinary32 (c : Count) : f32Value (i16ToBinary32 c) = c.toInt := by
  have h := i16ToBinary32_roundsTo c
  have hexact := RoundsTo.eq_of_mul_zpow (k := c.toInt) (e := 0) (by simpa using h) (by norm_num)
    (by rw [zpow_zero, mul_one]; exact (abs_toInt_le c).trans_lt (by norm_num))
  simpa using hexact

/-- Settles O35: the integers by `f32Value_i16ToBinary32`; the constants are roundings of 9/5 and 5463/20, and a
rounding is the nearest pattern (`RoundsTo.isNearestEven`). -/
theorem defaultIntegersAndConstants : Obligations.DefaultIntegersAndConstants := by
  unfold Obligations.DefaultIntegersAndConstants
  refine ⟨fun c => ⟨(i16ToBinary32_roundsTo c).finite, f32Value_i16ToBinary32 c⟩, fMul_roundsTo.isNearestEven,
    f32Value_fAdd, kAdd_roundsTo.isNearestEven, rfl, ?_, rfl, ?_⟩
  · rw [f32Value_scaleTc]
    norm_num
  · rw [f32Value_scaleInt]
    norm_num

end Sys2Proof.Machine
end

section
/-! The Unit Converter under the default NUMERICS (41_unit_converter R92 to R104): the two stages over every count. -/

namespace Sys2Proof.Machine

/-! ## The Celsius stage (41_unit_converter R92, R93, R101) -/

/-- A count times a power of two is exact. -/
theorem fmul_i16_zpow (c : Count) {scale : Temp} {e : ℤ} (hfinite : isFinite scale = true)
    (hscale : f32Value scale = (2 : ℚ) ^ e) (he : -149 ≤ e) (hle : e ≤ 0) :
    isFinite (fmulBinary32 (i16ToBinary32 c) scale) = true ∧
    f32Value (fmulBinary32 (i16ToBinary32 c) scale) = c.toInt * (2 : ℚ) ^ e := by
  have hc : |(c.toInt : ℚ) * (2 : ℚ) ^ e| < (2 : ℚ) ^ (e + 24) := by
    rw [abs_mul, abs_of_pos (a := (2 : ℚ) ^ e) (by positivity), zpow_add₀ (by norm_num), mul_comm]
    gcongr
    exact (abs_toInt_le c).trans_lt (by norm_num)
  have hlimit : (2 : ℚ) ^ (e + 24) ≤ (2 : ℚ) ^ (127 : ℤ) := zpow_le_zpow_right₀ one_le_two (by omega)
  have h := fmulBinary32_roundsTo (i16ToBinary32_roundsTo c).finite hfinite
  rw [f32Value_i16ToBinary32, hscale] at h
  have hround := h (hc.trans_le hlimit)
  exact ⟨hround.finite, hround.eq_of_mul_zpow he hc⟩

theorem cvtcTc_exact (c : Count) :
    isFinite (cvtcTc .binary32 c) = true ∧ f32Value (cvtcTc .binary32 c) = (c.toInt : ℚ) / 4 := by
  obtain ⟨hfinite, hvalue⟩ :=
    fmul_i16_zpow c (isFinite_of_unpack unpack_scaleTc) f32Value_scaleTc (by norm_num) (by norm_num)
  refine ⟨hfinite, hvalue.trans ?_⟩
  norm_num [div_eq_mul_inv]

theorem cvtcInt_exact (c : Count) :
    isFinite (cvtcInt .binary32 c) = true ∧ f32Value (cvtcInt .binary32 c) = (c.toInt : ℚ) / 16 := by
  obtain ⟨hfinite, hvalue⟩ :=
    fmul_i16_zpow c (isFinite_of_unpack unpack_scaleInt) f32Value_scaleInt (by norm_num) (by norm_num)
  refine ⟨hfinite, hvalue.trans ?_⟩
  norm_num [div_eq_mul_inv]

/-- Settles O34: a count fills at most 16 bits, so scaling it by a power of two is exact (`fmul_i16_zpow`). -/
theorem celsiusStageIsExact : Obligations.CelsiusStageIsExact := by
  unfold Obligations.CelsiusStageIsExact
  exact ⟨fun c _ => cvtcTc_exact c, fun c _ => cvtcInt_exact c, fun _ _ => ⟨rfl, rfl⟩, by decide, by decide, by decide⟩

/-! ## The steps at 2048 and 4096 degrees -/

theorem RoundsTo.abs_sub_le_of_lt_2048 {x : ℚ} {r : Temp} (h : RoundsTo x r) (hlo : -2048 < x) (hhi : x < 2048) :
    |f32Value r - x| ≤ 1 / 16384 := by
  have hround := h.abs_sub_le (e := -13) (by norm_num) ((abs_lt.mpr ⟨hlo, hhi⟩).trans_eq (by norm_num))
  exact hround.trans_eq (by norm_num)

theorem RoundsTo.abs_sub_le_of_lt_4096 {x : ℚ} {r : Temp} (h : RoundsTo x r) (hlo : -4096 < x) (hhi : x < 4096) :
    |f32Value r - x| ≤ 1 / 8192 := by
  have hround := h.abs_sub_le (e := -12) (by norm_num) ((abs_lt.mpr ⟨hlo, hhi⟩).trans_eq (by norm_num))
  exact hround.trans_eq (by norm_num)

theorem RoundsTo.exists_div_4096 {x : ℚ} {r : Temp} (h : RoundsTo x r) (hx : 2048 ≤ |x|) :
    ∃ k : ℤ, f32Value r = k / 4096 := by
  obtain ⟨k, hk⟩ := h.exists_mul_zpow (e := -12) (le_of_eq_of_le (by norm_num) hx)
  exact ⟨k, hk.trans (by norm_num [div_eq_mul_inv])⟩

theorem RoundsTo.eq_of_div_4096 {k : ℤ} {r : Temp} (h : RoundsTo (k / 4096) r) (hlo : -4096 < (k / 4096 : ℚ))
    (hhi : (k / 4096 : ℚ) < 4096) : f32Value r = k / 4096 := by
  have hstep : (k / 4096 : ℚ) = k * (2 : ℚ) ^ (-12 : ℤ) := by norm_num [div_eq_mul_inv]
  have hlt := abs_lt.mpr ⟨hlo, hhi⟩
  rw [hstep] at h hlt ⊢
  exact h.eq_of_mul_zpow (by norm_num) (hlt.trans_eq (by norm_num))

/-- A multiple of 1/4096 and one of 1/20 differ by a multiple of 1/20480. -/
theorem abs_sub_le_of_grid {u : ℚ} {m b : ℤ} (h : ∃ k : ℤ, u = k / 4096 ∧ |u - m / 20| < ((b + 1 : ℤ) : ℚ) / 20480) :
    |u - m / 20| ≤ b / 20480 := by
  obtain ⟨k, rfl, h⟩ := h
  have hdiff : (k : ℚ) / 4096 - m / 20 = ((5 * k - 1024 * m : ℤ) : ℚ) / 20480 := by
    push_cast
    ring
  rw [hdiff, abs_div, abs_of_pos (a := (20480 : ℚ)) (by norm_num)] at h ⊢
  rw [div_lt_div_iff_of_pos_right (by norm_num)] at h
  rw [div_le_div_iff_of_pos_right (by norm_num)]
  exact_mod_cast Int.lt_add_one_iff.mp (by exact_mod_cast h)

/-! ## The unit stage: each rounding, and the distance from the exact value (41_unit_converter R95, R96, R104) -/

section
variable {t : Temp}

theorem fmul_fMul_roundsTo (ht : isFinite t = true) (hbound : |f32Value t| ≤ 2048) :
    RoundsTo (f32Value t * (15099494 / 8388608)) (fmulBinary32 t Config.fMul) := by
  rw [← f32Value_fMul]
  refine fmulBinary32_roundsTo ht (isFinite_of_unpack unpack_fMul) ?_
  rw [f32Value_fMul, abs_mul, abs_of_pos (a := (15099494 / 8388608 : ℚ)) (by norm_num)]
  norm_num
  linarith

/-- The product of `UNIT.F` is off by half a step of 2^-12 at most. -/
theorem abs_fmul_fMul_sub_le (ht : isFinite t = true) (hbound : |f32Value t| ≤ 2048) :
    |f32Value (fmulBinary32 t Config.fMul) - f32Value t * (15099494 / 8388608)| ≤ 1 / 8192 := by
  obtain ⟨hlo, hhi⟩ := abs_le.mp hbound
  exact (fmul_fMul_roundsTo ht hbound).abs_sub_le_of_lt_4096 (by linarith) (by linarith)

theorem unitF_roundsTo (ht : isFinite t = true) (hbound : |f32Value t| ≤ 2048) :
    RoundsTo (f32Value (fmulBinary32 t Config.fMul) + 32) (unitF .binary32 t) := by
  rw [← f32Value_fAdd]
  refine faddBinary32_roundsTo (fmul_fMul_roundsTo ht hbound).finite (isFinite_of_unpack unpack_fAdd) ?_
  obtain ⟨hlo, hhi⟩ := abs_le.mp (abs_fmul_fMul_sub_le ht hbound)
  obtain ⟨htlo, hthi⟩ := abs_le.mp hbound
  rw [f32Value_fAdd, abs_lt]
  norm_num
  constructor <;> linarith

theorem unitK_roundsTo (ht : isFinite t = true) (hbound : |f32Value t| ≤ 2048) :
    RoundsTo (f32Value t + 8950579 / 32768) (unitK .binary32 t) := by
  rw [← f32Value_kAdd]
  refine faddBinary32_roundsTo ht (isFinite_of_unpack unpack_kAdd) ?_
  obtain ⟨htlo, hthi⟩ := abs_le.mp hbound
  rw [f32Value_kAdd, abs_lt]
  norm_num
  constructor <;> linarith

end

/-! ### Fahrenheit -/

section
variable {t : Temp}

/-- Where neither the product nor the sum reaches 2048. -/
theorem unitF_accuracy_below_2048 (ht : isFinite t = true) (hlo : -(4551 / 4) ≤ f32Value t)
    (hhi : f32Value t ≤ 4479 / 4) :
    |f32Value (unitF .binary32 t) - (9 / 5 * f32Value t + 32)| ≤ 1953125 / 10000000000 := by
  have hbound : |f32Value t| ≤ 2048 := abs_le.mpr ⟨by linarith, by linarith⟩
  obtain ⟨hplo, hphi⟩ := abs_le.mp
    ((fmul_fMul_roundsTo ht hbound).abs_sub_le_of_lt_2048 (by linarith) (by linarith))
  obtain ⟨hslo, hshi⟩ := abs_le.mp ((unitF_roundsTo ht hbound).abs_sub_le_of_lt_2048 (by linarith) (by linarith))
  exact abs_le.mpr ⟨by linarith, by linarith⟩

/-- Where the product or the sum reaches 2048 the result is a multiple of 1/4096, and off by less than that: of the two
roundings only one is to a multiple of 1/4096, the other is finer or exact. -/
theorem unitF_grid_beyond_2048 (ht : isFinite t = true) (hbound : |f32Value t| ≤ 2048)
    (hbeyond : f32Value t ≤ -1138 ∨ 4481 / 4 ≤ f32Value t) :
    ∃ k : ℤ, f32Value (unitF .binary32 t) = k / 4096 ∧
      |f32Value (unitF .binary32 t) - (9 / 5 * f32Value t + 32)| < 1 / 4096 := by
  have hproduct := fmul_fMul_roundsTo ht hbound
  have hsum := unitF_roundsTo ht hbound
  obtain ⟨htlo, hthi⟩ := abs_le.mp hbound
  obtain ⟨hplo, hphi⟩ := abs_le.mp (abs_fmul_fMul_sub_le ht hbound)
  rcases le_or_gt 2048 |f32Value t * (15099494 / 8388608)| with hcoarse | hfine
  · obtain ⟨j, hj⟩ := hproduct.exists_div_4096 hcoarse
    have hgrid : f32Value (fmulBinary32 t Config.fMul) + 32 = ((j + 131072 : ℤ) : ℚ) / 4096 := by
      rw [hj]
      push_cast
      ring
    rw [hgrid] at hsum
    have hexact := hsum.eq_of_div_4096 (by linarith) (by linarith)
    refine ⟨_, hexact, ?_⟩
    rw [hexact, ← hgrid, abs_lt]
    constructor <;> linarith
  · obtain ⟨hflo, hfhi⟩ := abs_lt.mp hfine
    have hcross : 4481 / 4 ≤ f32Value t := hbeyond.resolve_left fun h => by linarith
    obtain ⟨hplo, hphi⟩ := abs_le.mp (hproduct.abs_sub_le_of_lt_2048 hflo hfhi)
    obtain ⟨hslo, hshi⟩ := abs_le.mp (hsum.abs_sub_le_of_lt_4096 (by linarith) (by linarith))
    obtain ⟨k, hk⟩ := hsum.exists_div_4096 (le_abs.mpr (.inl (by linarith)))
    exact ⟨k, hk, abs_lt.mpr ⟨by linarith, by linarith⟩⟩

theorem unitF_accuracy_beyond_2048 {m : ℤ} (ht : isFinite t = true) (hbound : |f32Value t| ≤ 2048)
    (hbeyond : f32Value t ≤ -1138 ∨ 4481 / 4 ≤ f32Value t) (hexact : 9 / 5 * f32Value t + 32 = m / 20) :
    |f32Value (unitF .binary32 t) - (9 / 5 * f32Value t + 32)| ≤ 1953125 / 10000000000 := by
  obtain ⟨k, hk, hnear⟩ := unitF_grid_beyond_2048 ht hbound hbeyond
  rw [hexact] at hnear ⊢
  exact (abs_sub_le_of_grid (b := 4) ⟨k, hk, hnear.trans_eq (by norm_num)⟩).trans_eq (by norm_num)

/-! ### Kelvin -/

theorem unitK_accuracy_below_2048 (ht : isFinite t = true) (hlo : -2048 ≤ f32Value t)
    (hhi : f32Value t ≤ 7099 / 4) :
    |f32Value (unitK .binary32 t) - (f32Value t + 5463 / 20)| ≤ 9765625 / 100000000000 := by
  have hsum := unitK_roundsTo ht (abs_le.mpr ⟨hlo, by linarith⟩)
  obtain ⟨hslo, hshi⟩ := abs_le.mp (hsum.abs_sub_le_of_lt_2048 (by linarith) (by linarith))
  exact abs_le.mpr ⟨by linarith, by linarith⟩

theorem unitK_accuracy_beyond_2048 {m : ℤ} (ht : isFinite t = true) (hlo : 1775 ≤ f32Value t)
    (hhi : f32Value t ≤ 2048) (hexact : f32Value t + 5463 / 20 = m / 20) :
    |f32Value (unitK .binary32 t) - (f32Value t + 5463 / 20)| ≤ 9765625 / 100000000000 := by
  have hsum := unitK_roundsTo ht (abs_le.mpr ⟨by linarith, hhi⟩)
  obtain ⟨hslo, hshi⟩ := abs_le.mp (hsum.abs_sub_le_of_lt_4096 (by linarith) (by linarith))
  obtain ⟨k, hk⟩ := hsum.exists_div_4096 (le_abs.mpr (.inl (by linarith)))
  have hnear : |f32Value (unitK .binary32 t) - (f32Value t + 5463 / 20)| < 3 / 20480 :=
    abs_lt.mpr ⟨by linarith, by linarith⟩
  rw [hexact] at hnear ⊢
  exact (abs_sub_le_of_grid (b := 2) ⟨k, hk, hnear.trans_eq (by norm_num)⟩).trans_eq (by norm_num)

end

/-! ### Over every reachable count (41_unit_converter R104) -/

theorem toInt_bounds_of_isTcCount {c : Count} (hc : isTcCount c = true) :
    (-8192 : ℚ) ≤ c.toInt ∧ (c.toInt : ℚ) ≤ 8191 := by
  exact_mod_cast isTcCount_iff.mp hc

theorem toInt_bounds_of_isIntCount {c : Count} (hc : isIntCount c = true) :
    (-2048 : ℚ) ≤ c.toInt ∧ (c.toInt : ℚ) ≤ 2047 := by
  exact_mod_cast isIntCount_iff.mp hc

/-- Count 4480 stands apart: its product with the rounded 1.8 is below 2016, and rounds up to it. -/
theorem cvtcTc_unitF_4480 : f32Value (unitF .binary32 (cvtcTc .binary32 4480#16)) = 2048 := by
  have hunpack : unpack (unitF .binary32 (cvtcTc .binary32 4480#16)) = .finite false 8388608 (-12) := by decide
  rw [f32Value_of_unpack hunpack]
  norm_num

theorem cvtcTc_unitF_accuracy {c : Count} (hc : isTcCount c = true) :
    |f32Value (unitF .binary32 (cvtcTc .binary32 c)) - (9 * (c.toInt : ℚ) / 20 + 32)| ≤ 1953125 / 10000000000 := by
  obtain ⟨hlo, hhi⟩ := toInt_bounds_of_isTcCount hc
  obtain ⟨hfinite, hvalue⟩ := cvtcTc_exact c
  have hexact : 9 * (c.toInt : ℚ) / 20 + 32 = 9 / 5 * f32Value (cvtcTc .binary32 c) + 32 := by
    rw [hvalue]
    ring
  have hgrid : 9 / 5 * f32Value (cvtcTc .binary32 c) + 32 = ((9 * c.toInt + 640 : ℤ) : ℚ) / 20 := by
    rw [hvalue]
    push_cast
    ring
  have hbound : |f32Value (cvtcTc .binary32 c)| ≤ 2048 := by
    rw [hvalue, abs_le]
    constructor <;> linarith
  rcases (by omega : c.toInt ≤ -4552 ∨ (-4551 ≤ c.toInt ∧ c.toInt ≤ 4479) ∨ c.toInt = 4480 ∨ 4481 ≤ c.toInt)
    with hneg | ⟨hblo, hbhi⟩ | hlimit | hpos
  · have hneg' : (c.toInt : ℚ) ≤ -4552 := by exact_mod_cast hneg
    rw [hexact]
    exact unitF_accuracy_beyond_2048 hfinite hbound (.inl (by linarith)) hgrid
  · have hblo' : (-4551 : ℚ) ≤ c.toInt := by exact_mod_cast hblo
    have hbhi' : (c.toInt : ℚ) ≤ 4479 := by exact_mod_cast hbhi
    rw [hexact]
    exact unitF_accuracy_below_2048 hfinite (by linarith) (by linarith)
  · obtain rfl : c = 4480#16 := BitVec.eq_of_toInt_eq hlimit
    rw [cvtcTc_unitF_4480, hlimit]
    norm_num
  · have hpos' : (4481 : ℚ) ≤ c.toInt := by exact_mod_cast hpos
    rw [hexact]
    exact unitF_accuracy_beyond_2048 hfinite hbound (.inr (by linarith)) hgrid

theorem cvtcTc_unitK_accuracy {c : Count} (hc : isTcCount c = true) :
    |f32Value (unitK .binary32 (cvtcTc .binary32 c)) - ((c.toInt : ℚ) / 4 + 5463 / 20)| ≤ 9765625 / 100000000000 := by
  obtain ⟨hlo, hhi⟩ := toInt_bounds_of_isTcCount hc
  obtain ⟨hfinite, hvalue⟩ := cvtcTc_exact c
  have hgrid : (c.toInt : ℚ) / 4 + 5463 / 20 = ((5 * c.toInt + 5463 : ℤ) : ℚ) / 20 := by
    push_cast
    ring
  rw [← hvalue] at hgrid ⊢
  rcases le_or_gt c.toInt 7099 with hbelow | hbeyond
  · have hbelow' : (c.toInt : ℚ) ≤ 7099 := by exact_mod_cast hbelow
    exact unitK_accuracy_below_2048 hfinite (by linarith) (by linarith)
  · have hbeyond' : (7100 : ℚ) ≤ c.toInt := by exact_mod_cast hbeyond
    exact unitK_accuracy_beyond_2048 hfinite (by linarith) (by linarith) hgrid

theorem cvtcInt_unitF_accuracy {c : Count} (hc : isIntCount c = true) :
    |f32Value (unitF .binary32 (cvtcInt .binary32 c)) - (9 * (c.toInt : ℚ) / 80 + 32)| ≤ 1953125 / 10000000000 := by
  obtain ⟨hlo, hhi⟩ := toInt_bounds_of_isIntCount hc
  obtain ⟨hfinite, hvalue⟩ := cvtcInt_exact c
  have hexact : 9 * (c.toInt : ℚ) / 80 + 32 = 9 / 5 * f32Value (cvtcInt .binary32 c) + 32 := by
    rw [hvalue]
    ring
  rw [hexact]
  exact unitF_accuracy_below_2048 hfinite (by linarith) (by linarith)

theorem cvtcInt_unitK_accuracy {c : Count} (hc : isIntCount c = true) :
    |f32Value (unitK .binary32 (cvtcInt .binary32 c)) - ((c.toInt : ℚ) / 16 + 5463 / 20)| ≤
      9765625 / 100000000000 := by
  obtain ⟨hlo, hhi⟩ := toInt_bounds_of_isIntCount hc
  obtain ⟨hfinite, hvalue⟩ := cvtcInt_exact c
  rw [← hvalue]
  exact unitK_accuracy_below_2048 hfinite (by linarith) (by linarith)

/-- Settles O40: the bounds are the four `_accuracy` lemmas; counts 8189 (Fahrenheit) and 8191 (Kelvin) reach them. -/
theorem conversionAccuracy : Obligations.ConversionAccuracy := by
  unfold Obligations.ConversionAccuracy
  have hF : unpack (unitF .binary32 (cvtcTc .binary32 8189#16)) = .finite false 15225036 (-12) := by decide
  have hK : unpack (unitK .binary32 (cvtcTc .binary32 8191#16)) = .finite false 9506406 (-12) := by decide
  have hF40 : unpack (unitF .binary32 (cvtcTc .binary32 40#16)) = .finite false 13107200 (-18) := by decide
  have hK40 : unpack (unitK .binary32 (cvtcTc .binary32 40#16)) = .finite false 9278259 (-15) := by decide
  refine ⟨fun c hc => ⟨(cvtcTc_exact c).2, cvtcTc_unitF_accuracy hc, cvtcTc_unitK_accuracy hc⟩,
    fun c hc => ⟨(cvtcInt_exact c).2, cvtcInt_unitF_accuracy hc, cvtcInt_unitK_accuracy hc⟩,
    ⟨8189#16, by decide, ?_⟩, ⟨8191#16, by decide, ?_⟩, ?_, ?_, ?_⟩
  · rw [f32Value_of_unpack hF, show (8189#16).toInt = 8189 by decide]
    norm_num [abs_of_neg, abs_of_pos]
  · rw [f32Value_of_unpack hK, show (8191#16).toInt = 8191 by decide]
    norm_num [abs_of_neg, abs_of_pos]
  · rw [unitC, (cvtcTc_exact _).2, show (40#16).toInt = 40 by decide]
    norm_num
  · rw [f32Value_of_unpack hF40]
    norm_num
  · rw [f32Value_of_unpack hK40]
    norm_num [abs_of_neg, abs_of_pos]

/-! ## Zero (41_unit_converter R103) -/

theorem le_abs_div_of_le {m b : ℤ} {d : ℚ} (hd : 0 < d) (h : b ≤ m ∨ m ≤ -b) : (b : ℚ) / d ≤ |(m : ℚ) / d| := by
  rw [abs_div, abs_of_pos hd, div_le_div_iff_of_pos_right hd, le_abs, le_neg]
  exact_mod_cast h

/-- What is as near as R104 has it to a value of magnitude 1/16 or more has magnitude 1/20 or more. -/
theorem one_twentieth_le_of_near {u x : ℚ} (hx : 1 / 16 ≤ |x|) (hnear : |u - x| ≤ 1953125 / 10000000000) :
    1 / 20 ≤ |u| := by
  have htri := abs_sub_abs_le_abs_sub x u
  rw [abs_sub_comm] at htri
  linarith

theorem one_twentieth_le_abs_cvtcTc_unitF {c : Count} (hc : isTcCount c = true) :
    1 / 20 ≤ |f32Value (unitF .binary32 (cvtcTc .binary32 c))| := by
  by_cases hnearest : c.toInt = -71
  · obtain rfl : c = BitVec.ofInt 16 (-71) := BitVec.eq_of_toInt_eq hnearest
    have hunpack : unpack (unitF .binary32 (cvtcTc .binary32 (BitVec.ofInt 16 (-71)))) =
        .finite false 13422080 (-28) := by decide
    rw [f32Value_of_unpack hunpack]
    norm_num [abs_of_pos]
  · refine one_twentieth_le_of_near ?_ (cvtcTc_unitF_accuracy hc)
    have hfar := le_abs_div_of_le (m := 9 * c.toInt + 640) (b := 2) (d := 20) (by norm_num) (by omega)
    rw [show 9 * (c.toInt : ℚ) / 20 + 32 = ((9 * c.toInt + 640 : ℤ) : ℚ) / 20 by push_cast; ring]
    exact le_trans (by norm_num) hfar

theorem one_twentieth_le_abs_cvtcInt_unitF {c : Count} (hc : isIntCount c = true) :
    1 / 20 ≤ |f32Value (unitF .binary32 (cvtcInt .binary32 c))| := by
  by_cases hnearest : c.toInt = -284
  · obtain rfl : c = BitVec.ofInt 16 (-284) := BitVec.eq_of_toInt_eq hnearest
    have hunpack : unpack (unitF .binary32 (cvtcInt .binary32 (BitVec.ofInt 16 (-284)))) =
        .finite false 13422080 (-28) := by decide
    rw [f32Value_of_unpack hunpack]
    norm_num [abs_of_pos]
  · refine one_twentieth_le_of_near ?_ (cvtcInt_unitF_accuracy hc)
    have hfar := le_abs_div_of_le (m := 9 * c.toInt + 2560) (b := 5) (d := 80) (by norm_num) (by omega)
    rw [show 9 * (c.toInt : ℚ) / 80 + 32 = ((9 * c.toInt + 2560 : ℤ) : ℚ) / 80 by push_cast; ring]
    exact le_trans (by norm_num) hfar

theorem one_twentieth_le_abs_cvtcTc_unitK {c : Count} (hc : isTcCount c = true) :
    1 / 20 ≤ |f32Value (unitK .binary32 (cvtcTc .binary32 c))| := by
  refine one_twentieth_le_of_near ?_ ((cvtcTc_unitK_accuracy hc).trans (by norm_num))
  have hfar := le_abs_div_of_le (m := 5 * c.toInt + 5463) (b := 2) (d := 20) (by norm_num) (by omega)
  rw [show (c.toInt : ℚ) / 4 + 5463 / 20 = ((5 * c.toInt + 5463 : ℤ) : ℚ) / 20 by push_cast; ring]
  exact le_trans (by norm_num) hfar

theorem one_twentieth_le_abs_cvtcInt_unitK {c : Count} (hc : isIntCount c = true) :
    1 / 20 ≤ |f32Value (unitK .binary32 (cvtcInt .binary32 c))| := by
  refine one_twentieth_le_of_near ?_ ((cvtcInt_unitK_accuracy hc).trans (by norm_num))
  obtain ⟨hlo, -⟩ := toInt_bounds_of_isIntCount hc
  exact le_abs.mpr (.inl (by linarith))

/-- No Celsius value of a count is -0.0, and none but that of count 0 is zero. -/
theorem unitC_ne_zero {c : Count} {t : Temp} {d : ℚ} (hd : d ≠ 0) (hvalue : f32Value t = c.toInt / d)
    (hzero : c = 0#16 → t = 0#32) : unitC t ≠ 0x80000000#32 ∧ (c ≠ 0#16 → f32Value (unitC t) ≠ 0) := by
  have hne : c ≠ 0#16 → f32Value t ≠ 0 := by
    intro hc
    rw [hvalue]
    refine div_ne_zero (Int.cast_ne_zero.mpr fun h => hc (BitVec.eq_of_toInt_eq h)) hd
  refine ⟨fun hneg => ?_, hne⟩
  have hunpack : unpack 0x80000000#32 = .finite true 0 (-149) := by decide
  by_cases hc : c = 0#16
  · rw [hzero hc] at hneg
    exact absurd hneg (by decide)
  · refine hne hc ?_
    rw [show t = 0x80000000#32 from hneg, f32Value_of_unpack hunpack]
    norm_num

theorem cvtcTc_zero : cvtcTc .binary32 0#16 = 0#32 := by decide
theorem cvtcInt_zero : cvtcInt .binary32 0#16 = 0#32 := by decide

/-- Settles O39: Celsius by exactness (`unitC_ne_zero`); the other units by their accuracy, for the exact value is well
away from zero at every count but the one nearest to the root, which is evaluated. -/
theorem zeroResults : Obligations.ZeroResults := by
  unfold Obligations.ZeroResults
  refine ⟨by decide, cvtcTc_zero, cvtcInt_zero, ?results, ?roots, ?grid⟩
  case results =>
    rintro c t (⟨hc, rfl⟩ | ⟨hc, rfl⟩)
    · exact ⟨unitC_ne_zero (by norm_num) (cvtcTc_exact c).2 (fun h => h ▸ cvtcTc_zero),
        one_twentieth_le_abs_cvtcTc_unitF hc, one_twentieth_le_abs_cvtcTc_unitK hc⟩
    · exact ⟨unitC_ne_zero (by norm_num) (cvtcInt_exact c).2 (fun h => h ▸ cvtcInt_zero),
        one_twentieth_le_abs_cvtcInt_unitF hc, one_twentieth_le_abs_cvtcInt_unitK hc⟩
  case roots =>
    intro x
    constructor <;> constructor <;> intro h <;> linarith
  case grid =>
    intro n
    constructor
    · intro h
      have : (9 * n : ℚ) = -2560 := by linarith
      have : 9 * n = -2560 := by exact_mod_cast this
      omega
    · intro h
      have : (5 * n : ℚ) = -21852 := by linarith
      have : 5 * n = -21852 := by exact_mod_cast this
      omega

/-! ## The formulas of the units (41_unit_converter R94 to R96) -/

/-- Settles O33: the formulas are definitions, the corner cases and examples are evaluated. -/
theorem unitFormulas : Obligations.UnitFormulas := by
  unfold Obligations.UnitFormulas
  refine ⟨fun _ => rfl, fun _ _ => rfl, rfl, by decide, ?constant, ?coldest, by decide, fun _ => rfl, by decide,
    by decide, by decide, by decide⟩
  case constant =>
    refine f32Value_kAdd.trans ?_
    norm_num
  case coldest =>
    have hunpack : unpack (unitK .binary32 0xC5000000#32) = .finite true 14539571 (-13) := by decide
    rw [f32Value_of_unpack hunpack]
    norm_num

end Sys2Proof.Machine
end

section
/-! SUPPORT. The block operations of 43_block_operations R126, R127, R130 and R131: what the ports hold after each
outcome of the decode, once for each frame length, and the outcome each operation delivers. -/

namespace Sys2Proof.Machine

/-! ## What the ports hold after a decode (43_block_operations R125) -/

section
variable (s : State) {w w0 w1 : Word16} {sel : CflagSel}

theorem finish_dec16_clear (hflag : gflag w = false) (f : Count → Result) :
    finish s ((dec16 w).map f) = setOut s (resultOutputs (f (sext14 (xtc w)))) := by
  rw [dec16_clear hflag, Except.map, finish_ok]

theorem finish_dec16_faulted (hflag : gflag w = true) (f : Count → Result) :
    finish s ((dec16 w).map f) = setOut s (portsOfFault 1#3) := by
  rw [dec16_faulted hflag]
  rfl

theorem finish_dec32_clear (hfault : resolve32 (splitFaultBits sel w0 w1) = none) (f : Count × Count → Result) :
    finish s ((dec32 sel w0 w1).map f) = setOut s (resultOutputs (f (sext14 (xtc w0), sext12 (xint w1)))) := by
  rw [dec32_clear hfault, Except.map, finish_ok]

theorem finish_dec32_faulted {k : FaultKind} (hfault : resolve32 (splitFaultBits sel w0 w1) = some k)
    (f : Count × Count → Result) :
    finish s ((dec32 sel w0 w1).map f) = setOut s (portsOfFault (faultCode k)) := by
  rw [dec32_faulted hfault]
  rfl

end

/-- Under the default CFLAG_SEL the flag is the missing-thermocouple bit itself (40_frame_decoder R80). -/
theorem eq_missingTc_of_resolve32_w1Bit0 {w0 w1 : Word16} {k : FaultKind}
    (hfault : resolve32 (splitFaultBits .w1Bit0 w0 w1) = some k) : k = .missingTc := by
  have hdec := dec32_faulted hfault
  rw [dec32_w1Bit0] at hdec
  split at hdec
  · exact (Except.error.inj hdec).symm
  · cases hdec

/-! ## The frames of the examples -/

theorem dec16_bytes_00_28 : dec16 (word 0x00#8 0x28#8) = .ok 10#16 := rfl

theorem dec32_bytes_01_90_19_00 (sel : CflagSel) :
    dec32 sel (word 0x01#8 0x90#8) (word 0x19#8 0x00#8) = .ok (100#16, 400#16) := by
  cases sel <;> rfl

theorem dec32_w1Bit0_bytes_00_00_00_01 :
    dec32 .w1Bit0 (word 0x00#8 0x00#8) (word 0x00#8 0x01#8) = .error .missingTc := rfl

/-! ## The converting operations -/

/-- TCCNV.C completes with the outcome of `dec16`, scaled (43_block_operations R127). -/
theorem exec_tccnvC (s : State) :
    exec .tccnvC s = .next (finish s
      ((dec16 (frameWord0 s)).map fun tc => .converted (unitC (cvtcTc s.config.numerics tc)))) :=
  exec_eq_deliver .tccnvC s

/-- ALLCNV.C completes with the outcome of `dec32`, each count scaled by its own factor (43_block_operations R131). -/
theorem exec_allcnvC (s : State) :
    exec .allcnvC s = .next (finish s
      ((dec32 s.config.cflagSel (frameWord0 s) (frameWord1 s)).map fun c =>
        .convertedPair (unitC (cvtcTc s.config.numerics c.1)) (unitC (cvtcInt s.config.numerics c.2)) .celsius)) :=
  exec_eq_deliver .allcnvC s

theorem cvtcTc_10 : cvtcTc .binary32 10#16 = 0x40200000#32 := by decide
theorem cvtcTc_100 : cvtcTc .binary32 100#16 = 0x41C80000#32 := by decide
theorem cvtcInt_400 : cvtcInt .binary32 400#16 = 0x41C80000#32 := by decide

/-! ## The obligations -/

/-- Settles O19: bit 0 of the word decides between the two outcomes of `dec16`, whose ports are `finish_dec16_clear`
and `finish_dec16_faulted`; UNIT is only an operand (`exec_tcraw`). -/
theorem tcrawResult : Obligations.TcrawResult := by
  unfold Obligations.TcrawResult
  refine ⟨fun x s => ⟨decodeCmd_unit_append_00 x, ?clear, ?faulted⟩, ?vector⟩
  case clear =>
    intro hflag
    rw [exec_tcraw, finish_dec16_clear s hflag]
    rfl
  case faulted =>
    intro hflag
    rw [exec_tcraw, finish_dec16_faulted s hflag]
  case vector =>
    intro x s h0 h1
    rw [exec_tcraw, frameWord0_of_bytes h0 h1, dec16_bytes_00_28]
    rfl

/-- Settles O20: the outcomes of `dec16` as in O19; the scaling is exact (`cvtcTc_exact`), so a result is a quarter of
the count. -/
theorem tccnvCResult : Obligations.TccnvCResult := by
  unfold Obligations.TccnvCResult
  refine ⟨rfl, fun s => ⟨?clear, ?faulted⟩, ?vector, ?range⟩
  case clear =>
    intro hflag
    rw [exec_tccnvC, finish_dec16_clear s hflag]
    rfl
  case faulted =>
    intro hflag
    rw [exec_tccnvC, finish_dec16_faulted s hflag]
  case vector =>
    intro s hnumerics h0 h1
    rw [exec_tccnvC, frameWord0_of_bytes h0 h1, dec16_bytes_00_28, Except.map, hnumerics, cvtcTc_10]
    rfl
  case range =>
    intro c hc
    obtain ⟨hlo, hhi⟩ := toInt_bounds_of_isTcCount hc
    exact ⟨c.toInt, (cvtcTc_exact c).2, by linarith, by linarith⟩

/-- Settles O23: `resolve32` decides between the two outcomes of `dec32`, whose ports are `finish_dec32_clear` and
`finish_dec32_faulted`; under the default CFLAG_SEL it can find one kind only. -/
theorem allrawResult : Obligations.AllrawResult := by
  unfold Obligations.AllrawResult
  refine ⟨fun x s => ⟨decodeCmd_unit_append_01 x, ?clear, ?faulted⟩, ?reading, ?missing⟩
  case clear =>
    intro hfault
    rw [exec_allraw, finish_dec32_clear s hfault]
    rfl
  case faulted =>
    intro k hfault
    rw [exec_allraw, finish_dec32_faulted s hfault]
    exact ⟨rfl, fun hsel => eq_missingTc_of_resolve32_w1Bit0 (hsel ▸ hfault)⟩
  case reading =>
    intro x s h0 h1 h2 h3
    rw [exec_allraw, frameWord0_of_bytes h0 h1, frameWord1_of_bytes h2 h3, dec32_bytes_01_90_19_00]
    rfl
  case missing =>
    intro x s hsel h0 h1 h2 h3
    rw [exec_allraw, hsel, frameWord0_of_bytes h0 h1, frameWord1_of_bytes h2 h3, dec32_w1Bit0_bytes_00_00_00_01]
    rfl

/-- Settles O24: the outcomes of `dec32` as in O23; in the example both counts scale to 25.0. -/
theorem allcnvCResult : Obligations.AllcnvCResult := by
  unfold Obligations.AllcnvCResult
  refine ⟨rfl, fun s => ⟨?clear, ?faulted⟩, ?vector⟩
  case clear =>
    intro hfault
    rw [exec_allcnvC, finish_dec32_clear s hfault]
    rfl
  case faulted =>
    intro k hfault
    rw [exec_allcnvC, finish_dec32_faulted s hfault]
  case vector =>
    intro s hnumerics h0 h1 h2 h3
    rw [exec_allcnvC, frameWord0_of_bytes h0 h1, frameWord1_of_bytes h2 h3, dec32_bytes_01_90_19_00, Except.map,
      hnumerics, cvtcTc_100, cvtcInt_400]
    rfl

end Sys2Proof.Machine
end

section
/-! SUPPORT. Device faults (60_exceptions R146, R149, R152): the exact cause of each kind in the resolution, when a
decode answers with it, and when an operation reports it on STATUS. -/

namespace Sys2Proof.Machine

/-! ## The causes of the four kinds (60_exceptions R146, R149) -/

/-- What the specific bits of a faulted 4-byte frame are for each kind: the last column of the table of 60_exceptions
R146, the composite flag left out. Tied to `resolve32` by `resolve32_eq_some_iff`. -/
@[reducible] def specificCause (b : FaultBits) : FaultKind → Prop
  | .genericFault => b.oc = false ∧ b.scg = false ∧ b.scv = false
  | .missingTc => b.oc = true
  | .gndShort => b.oc = false ∧ b.scg = true
  | .vccShort => b.oc = false ∧ b.scg = false ∧ b.scv = true

/-- The priority order as a table: a kind is found when and only when the composite flag is set and the kind's own
cause holds. -/
theorem resolve32_eq_some_iff {b : FaultBits} {k : FaultKind} :
    resolve32 b = some k ↔ b.cflag = true ∧ specificCause b k := by
  cases hflag : b.cflag with
  | false => simp [resolve32_clear hflag]
  | true =>
    rw [resolve32_of_cflag hflag]
    cases k <;> simp [ite_eq_iff]

/-- Settles O11: each row with the composite flag set meets the cause of its kind (`resolve32_eq_some_iff`), and
without the flag there is no fault (`resolve32_clear`); under the default CFLAG_SEL both bits are W1[0]. -/
theorem faultPriority : Obligations.FaultPriority := by
  unfold Obligations.FaultPriority
  exact ⟨fun _ _ _ => resolve32_clear rfl,
    fun _ _ => resolve32_eq_some_iff.mpr ⟨rfl, rfl⟩,
    fun _ => resolve32_eq_some_iff.mpr ⟨rfl, rfl, rfl⟩,
    resolve32_eq_some_iff.mpr ⟨rfl, rfl, rfl, rfl⟩,
    resolve32_eq_some_iff.mpr ⟨rfl, rfl, rfl, rfl⟩,
    fun _ _ => rfl⟩

/-! ## Taking a fault (60_exceptions R152) -/

/-- A 16-bit mode operation decodes the 2-byte frame and delivers what it makes of the count
(43_block_operations R125). -/
theorem exec_of_isOp16 {i : Instr} (hi : isOp16 i = true) (s : State) :
    ∃ f : Count → Result, exec i s = .next (finish s ((dec16 (frameWord0 s)).map f)) := by
  cases i with
  | tcraw _ | tccnvC | tccnvF | tccnvK => exact ⟨_, exec_eq_deliver _ s⟩
  | _ => cases hi

/-- Settles O27: an operation delivers its decode's outcome, which for a faulted frame does not depend on what the
operation makes of the counts (`finish_dec16_faulted`, `finish_dec32_faulted`). -/
theorem takingAFault : Obligations.TakingAFault := by
  unfold Obligations.TakingAFault
  constructor
  · intro i s hi hflag
    obtain ⟨f, hexec⟩ := exec_of_isOp16 hi s
    rw [hexec, finish_dec16_faulted s hflag]
  · intro i s k hi hfault
    obtain ⟨f, hexec⟩ := exec_of_isOp32 hi s
    rw [hexec, finish_dec32_faulted s hfault]

/-! ## When a decode answers with a fault -/

theorem dec16_eq_error_iff {w : Word16} {k : FaultKind} :
    dec16 w = .error k ↔ gflag w = true ∧ k = .genericFault := by
  cases hflag : gflag w with
  | true => simp [dec16_faulted hflag, eq_comm]
  | false => simp [dec16_clear hflag]

theorem dec32_eq_error_iff {sel : CflagSel} {w0 w1 : Word16} {k : FaultKind} :
    dec32 sel w0 w1 = .error k ↔ resolve32 (splitFaultBits sel w0 w1) = some k := by
  cases hfault : resolve32 (splitFaultBits sel w0 w1) with
  | some k' => simp [dec32_faulted hfault]
  | none => simp [dec32_clear hfault]

/-! ## STATUS and the fault (30_encoding R56, 60_exceptions R146) -/

theorem faultCode_injective : Function.Injective faultCode :=
  Function.Injective.of_comp (f := faultOfCode) fun k k' h => by simpa using h

theorem faultCode_ne_zero (k : FaultKind) : faultCode k ≠ 0#3 := by
  cases k <;> decide

/-- STATUS is the code of a kind exactly when the decode answered with that kind: no reading has a fault's code
(`resultOutputs_status`), and no two kinds share one. -/
theorem finish_map_status_eq_faultCode_iff {α : Type} {s : State} {o : Except FaultKind α} {f : α → Result}
    {k : FaultKind} : (finish s (o.map f)).out.status = some (faultCode k) ↔ o = .error k := by
  cases o with
  | ok a => simp [Except.map, resultOutputs_status, (faultCode_ne_zero k).symm]
  | error k' => simp [Except.map, faultOutputs, faultCode_injective.eq_iff]

/-- What a 16-bit mode operation reports: the generic fault alone, and that for `W[0] = 1`. -/
theorem status_eq_faultCode_iff_of_isOp16 {i : Instr} {s t : State} (hi : isOp16 i = true) (h : exec i s = .next t)
    (k : FaultKind) :
    t.out.status = some (faultCode k) ↔ (frameWord0 s).getLsbD 0 = true ∧ k = .genericFault := by
  obtain ⟨f, hexec⟩ := exec_of_isOp16 hi s
  obtain rfl := Host.Outcome.next.inj (hexec.symm.trans h)
  rw [finish_map_status_eq_faultCode_iff, dec16_eq_error_iff, gflag]

/-- What a 32-bit mode operation reports: the kind its frame's fault bits resolve to. -/
theorem status_eq_faultCode_iff_of_isOp32 {i : Instr} {s t : State} (hi : isOp32 i = true) (h : exec i s = .next t)
    (k : FaultKind) : t.out.status = some (faultCode k) ↔
      resolve32 (splitFaultBits s.config.cflagSel (frameWord0 s) (frameWord1 s)) = some k := by
  obtain ⟨f, hexec⟩ := exec_of_isOp32 hi s
  obtain rfl := Host.Outcome.next.inj (hexec.symm.trans h)
  rw [finish_map_status_eq_faultCode_iff, dec32_eq_error_iff]

/-- Settles O28: a code on STATUS is the decode's fault (`status_eq_faultCode_iff_of_isOp16`,
`status_eq_faultCode_iff_of_isOp32`), and in 32-bit mode the kind's cause is the one of `resolve32_eq_some_iff`. -/
theorem faultCauses : Obligations.FaultCauses := by
  unfold Obligations.FaultCauses
  constructor
  · intro i s t hi h
    have hcause := status_eq_faultCode_iff_of_isOp16 hi h
    have hnever : ∀ k, k ≠ .genericFault → t.out.status ≠ some (faultCode k) :=
      fun k hk hcode => hk ((hcause k).mp hcode).2
    exact ⟨(hcause .genericFault).trans (and_iff_left rfl), hnever .missingTc (by decide),
      hnever .gndShort (by decide), hnever .vccShort (by decide)⟩
  · intro i s t hi h
    have hcause := fun k => (status_eq_faultCode_iff_of_isOp32 hi h k).trans resolve32_eq_some_iff
    exact ⟨hcause .genericFault, hcause .missingTc, hcause .gndShort, hcause .vccShort⟩

end Sys2Proof.Machine
end

section
/-! SUPPORT. The frames of 30_encoding R57, R58 and R62: a word laid out from its fields gives them back, so each
pattern decodes to its row; every word has such a layout, so each row's bytes are the ones it was decoded from. -/

namespace Sys2Proof

/-! ## A word laid out from its fields -/

/-- Every word is a high part followed by a low part. -/
theorem exists_eq_append {n m : Nat} (w : BitVec (n + m)) : ∃ (hi : BitVec n) (lo : BitVec m), w = hi ++ lo :=
  ⟨w.extractLsb' m n, w.extractLsb' 0 m, BitVec.extractLsb'_append_extractLsb'.symm⟩

section
variable (t : BitVec 14) (r0 : BitVec 2) (i : BitVec 12) (r f : BitVec 1) (low : BitVec 3)

/-! The first word: a 14-bit field and two bits, which are W[1] and the flag in the formats that use the flag. -/

theorem field14_append (lo : BitVec 2) : (t ++ lo : Word16).extractLsb' 2 14 = t :=
  BitVec.extractLsb'_append_eq_left

theorem lowBits_append : (t ++ r0 : Word16).extractLsb' 0 2 = r0 :=
  BitVec.extractLsb'_append_eq_right

theorem field14_append_append : (t ++ r ++ f : Word16).extractLsb' 2 14 = t :=
  (congrArg (BitVec.extractLsb' 2 14) BitVec.append_assoc).trans (field14_append t (r ++ f))

theorem bit1_append_append : (t ++ r ++ f : Word16).extractLsb' 1 1 = r := by
  rw [BitVec.extractLsb'_append_eq_of_le (by decide), BitVec.extractLsb'_append_eq_right]

theorem flag_append_append : (t ++ r ++ f : Word16).getLsbD 0 = f.getLsbD 0 :=
  BitVec.getLsbD_append

/-! The second word: a 12-bit field, the ignored W1[3], and the three fault bits. -/

theorem field12_append_append : (i ++ r ++ low : Word16).extractLsb' 4 12 = i := by
  rw [BitVec.extractLsb'_append_eq_of_le (by decide), BitVec.extractLsb'_append_eq_left]

theorem bit3_append_append : (i ++ r ++ low : Word16).extractLsb' 3 1 = r := by
  rw [BitVec.extractLsb'_append_eq_of_le (by decide), BitVec.extractLsb'_append_eq_right]

theorem faultBits_append_append {start len : Nat} (h : start + len ≤ 3) :
    (i ++ r ++ low : Word16).extractLsb' start len = low.extractLsb' start len :=
  BitVec.extractLsb'_append_eq_of_add_le h

theorem faultBit_append_append {k : Nat} (h : k < 3) : (i ++ r ++ low : Word16).getLsbD k = low.getLsbD k :=
  BitVec.getLsbD_append.trans (if_pos h)

/-! ## Decoding a laid-out frame -/

theorem decodeFrame16_append :
    decodeFrame16 (t ++ r ++ f) = if f.getLsbD 0 then .f16GenericFault t r else .f16Ok t r := by
  rw [decodeFrame16, flag_append_append, field14_append_append, bit1_append_append]

theorem decodeFrame32W1_append :
    decodeFrame32W1 (t ++ r0) (i ++ r ++ low) =
      if low.getLsbD 0 then .f32MissingTc t r0 i r (low.extractLsb' 1 2)
      else .f32Ok t r0 i r (low.extractLsb' 1 2) := by
  rw [decodeFrame32W1, faultBit_append_append i r low (by decide), field14_append, lowBits_append,
    field12_append_append, bit3_append_append, faultBits_append_append i r low (by decide)]

theorem decodeFrame32W0_append (r1 : BitVec 1) :
    decodeFrame32W0 (t ++ r ++ f) (i ++ r1 ++ low) =
      if f.getLsbD 0 then
        if low.getLsbD 0 then .f32w0MissingTc t r i r1 (low.extractLsb' 1 2)
        else if low.getLsbD 1 then .f32w0GndShort t r i r1 (low.extractLsb' 2 1)
        else if low.getLsbD 2 then .f32w0VccShort t r i r1
        else .f32w0GenericFault t r i r1
      else .f32w0Ok t r i r1 low := by
  have hbit : ∀ k < 3, (i ++ r1 ++ low : Word16).getLsbD k = low.getLsbD k :=
    fun k hk => faultBit_append_append i r1 low hk
  have hbits : ∀ start len, start + len ≤ 3 →
      (i ++ r1 ++ low : Word16).extractLsb' start len = low.extractLsb' start len :=
    fun start len h => faultBits_append_append i r1 low h
  rw [decodeFrame32W0, flag_append_append, field14_append_append, bit1_append_append, field12_append_append,
    bit3_append_append, hbit 0 (by decide), hbit 1 (by decide), hbit 2 (by decide), hbits 1 2 (by decide),
    hbits 2 1 (by decide), hbits 0 3 (by decide), BitVec.extractLsb'_eq_self]

/-! ## The patterns (30_encoding R57, R58, R62) -/

/-- The fault bits written as a 2-bit field and a bit, as the rows have them. -/
theorem append_pair_bit (x : BitVec 2) : (i ++ r ++ x ++ f : Word16) = i ++ r ++ (x ++ f) := BitVec.append_assoc

/-- The fault bits written as a bit and a 2-bit field, as F32_W0.GND_SHORT has them. -/
theorem append_bit_pair (x : BitVec 2) : (i ++ r ++ f ++ x : Word16) = i ++ r ++ (f ++ x) := BitVec.append_assoc

theorem pair_of_pair_append_bit : ∀ (x : BitVec 2) (f : BitVec 1), (x ++ f).extractLsb' 1 2 = x := by decide

end

section
variable (t : BitVec 14) (i : BitVec 12) (r r1 : BitVec 1) (r0 x : BitVec 2)

theorem decodeFrame16_ok : decodeFrame16 (t ++ r ++ 0b0#1) = .f16Ok t r := decodeFrame16_append t r 0#1

theorem decodeFrame16_genericFault : decodeFrame16 (t ++ r ++ 0b1#1) = .f16GenericFault t r :=
  decodeFrame16_append t r 1#1

theorem decodeFrame32W1_ok : decodeFrame32W1 (t ++ r0) (i ++ r ++ x ++ 0b0#1) = .f32Ok t r0 i r x := by
  have hflag : ∀ x : BitVec 2, (x ++ 0b0#1).getLsbD 0 = false := by decide
  rw [append_pair_bit, decodeFrame32W1_append, hflag, pair_of_pair_append_bit]
  rfl

theorem decodeFrame32W1_missingTc :
    decodeFrame32W1 (t ++ r0) (i ++ r ++ x ++ 0b1#1) = .f32MissingTc t r0 i r x := by
  have hflag : ∀ x : BitVec 2, (x ++ 0b1#1).getLsbD 0 = true := by decide
  rw [append_pair_bit, decodeFrame32W1_append, hflag, pair_of_pair_append_bit]
  rfl

theorem decodeFrame32W0_ok (low : BitVec 3) :
    decodeFrame32W0 (t ++ r ++ 0b0#1) (i ++ r1 ++ low) = .f32w0Ok t r i r1 low :=
  decodeFrame32W0_append t i r 0#1 low r1

theorem decodeFrame32W0_missingTc :
    decodeFrame32W0 (t ++ r ++ 0b1#1) (i ++ r1 ++ x ++ 0b1#1) = .f32w0MissingTc t r i r1 x := by
  have hoc : ∀ x : BitVec 2, (x ++ 0b1#1).getLsbD 0 = true := by decide
  rw [append_pair_bit, decodeFrame32W0_append, hoc, pair_of_pair_append_bit]
  rfl

theorem decodeFrame32W0_gndShort (x : BitVec 1) :
    decodeFrame32W0 (t ++ r ++ 0b1#1) (i ++ r1 ++ x ++ 0b10#2) = .f32w0GndShort t r i r1 x := by
  have hlow : ∀ x : BitVec 1, (x ++ 0b10#2).getLsbD 0 = false ∧ (x ++ 0b10#2).getLsbD 1 = true ∧
      (x ++ 0b10#2).extractLsb' 2 1 = x := by decide
  obtain ⟨hoc, hscg, hx⟩ := hlow x
  rw [append_bit_pair, decodeFrame32W0_append, hoc, hscg, hx]
  rfl

theorem decodeFrame32W0_vccShort :
    decodeFrame32W0 (t ++ r ++ 0b1#1) (i ++ r1 ++ 0b100#3) = .f32w0VccShort t r i r1 :=
  decodeFrame32W0_append t i r 1#1 0b100#3 r1

theorem decodeFrame32W0_genericFault :
    decodeFrame32W0 (t ++ r ++ 0b1#1) (i ++ r1 ++ 0b000#3) = .f32w0GenericFault t r i r1 :=
  decodeFrame32W0_append t i r 1#1 0b000#3 r1

end

/-! ## Words and bytes (20_memory R31) -/

theorem wordBytes_append (hi lo : Byte) : wordBytes (hi ++ lo) = [hi, lo] := by
  rw [wordBytes, BitVec.extractLsb'_append_eq_left, BitVec.extractLsb'_append_eq_right]

theorem decode_frame16_wordBytes (sel : CflagSel) (w : Word16) :
    decode sel .frame16 (wordBytes w) = .instr (decodeFrame16 w) := by
  obtain ⟨hi, lo, rfl⟩ := exists_eq_append (n := 8) (m := 8) w
  rw [wordBytes_append, decode]

theorem decode_frame32_wordBytes (sel : CflagSel) (w0 w1 : Word16) :
    decode sel .frame32 (wordBytes w0 ++ wordBytes w1) = .instr (decodeFrame32 sel w0 w1) := by
  obtain ⟨hi0, lo0, rfl⟩ := exists_eq_append (n := 8) (m := 8) w0
  obtain ⟨hi1, lo1, rfl⟩ := exists_eq_append (n := 8) (m := 8) w1
  rw [wordBytes_append, wordBytes_append]
  rfl

/-- The byte of a command word decodes to the word's operation (30_encoding R54). -/
theorem decode_commandBytes (sel : CflagSel) (cmd : BitVec 4) :
    decode sel .command (commandBytes cmd) = .instr (decodeCmd cmd) := by
  have hhigh : (0#4 ++ cmd).extractLsb' 4 4 = 0#4 := BitVec.extractLsb'_append_eq_left
  have hlow : (0#4 ++ cmd).extractLsb' 0 4 = cmd := BitVec.extractLsb'_append_eq_right
  simp only [decode, commandBytes, hhigh, hlow, if_true]

/-! ## Encoding what was decoded -/

theorem encode_decodeCmd : ∀ cmd : BitVec 4,
    encode (decodeCmd cmd) = commandBytes cmd ∧ formatOf (decodeCmd cmd) = .command ∧ (decodeCmd cmd).needs = none := by
  decide

theorem bit_cases : ∀ f : BitVec 1, f = 0#1 ∨ f = 1#1 := by decide

/-- The three fault bits in the patterns of the rows, as the priority order tells them apart (30_encoding R62). -/
theorem faultBits_cases : ∀ low : BitVec 3, (∃ x : BitVec 2, low = x ++ 0b1#1) ∨ (∃ x : BitVec 1, low = x ++ 0b10#2) ∨
    low = 0b100#3 ∨ low = 0b000#3 := by
  decide

theorem encode_decodeFrame16 (w : Word16) : encode (decodeFrame16 w) = wordBytes w ∧
    formatOf (decodeFrame16 w) = .frame16 ∧ (decodeFrame16 w).needs = none := by
  obtain ⟨tr, f, rfl⟩ := exists_eq_append (n := 15) (m := 1) w
  obtain ⟨t, r, rfl⟩ := exists_eq_append (n := 14) (m := 1) tr
  rcases bit_cases f with rfl | rfl
  · rw [decodeFrame16_ok]
    exact ⟨rfl, rfl, rfl⟩
  · rw [decodeFrame16_genericFault]
    exact ⟨rfl, rfl, rfl⟩

theorem encode_decodeFrame32W1 (w0 w1 : Word16) :
    encode (decodeFrame32W1 w0 w1) = wordBytes w0 ++ wordBytes w1 ∧ formatOf (decodeFrame32W1 w0 w1) = .frame32 ∧
    (decodeFrame32W1 w0 w1).needs = some .w1Bit0 := by
  obtain ⟨t, r0, rfl⟩ := exists_eq_append (n := 14) (m := 2) w0
  obtain ⟨irx, f, rfl⟩ := exists_eq_append (n := 15) (m := 1) w1
  obtain ⟨ir, x, rfl⟩ := exists_eq_append (n := 13) (m := 2) irx
  obtain ⟨i, r, rfl⟩ := exists_eq_append (n := 12) (m := 1) ir
  rcases bit_cases f with rfl | rfl
  · rw [decodeFrame32W1_ok]
    exact ⟨rfl, rfl, rfl⟩
  · rw [decodeFrame32W1_missingTc]
    exact ⟨rfl, rfl, rfl⟩

theorem encode_decodeFrame32W0 (w0 w1 : Word16) :
    encode (decodeFrame32W0 w0 w1) = wordBytes w0 ++ wordBytes w1 ∧ formatOf (decodeFrame32W0 w0 w1) = .frame32 ∧
    (decodeFrame32W0 w0 w1).needs = some .w0Bit0 := by
  obtain ⟨tr, f, rfl⟩ := exists_eq_append (n := 15) (m := 1) w0
  obtain ⟨t, r, rfl⟩ := exists_eq_append (n := 14) (m := 1) tr
  obtain ⟨ir, low, rfl⟩ := exists_eq_append (n := 13) (m := 3) w1
  obtain ⟨i, r1, rfl⟩ := exists_eq_append (n := 12) (m := 1) ir
  rcases bit_cases f with rfl | rfl
  · rw [decodeFrame32W0_ok]
    exact ⟨rfl, rfl, rfl⟩
  · rcases faultBits_cases low with ⟨x, rfl⟩ | ⟨x, rfl⟩ | rfl | rfl
    · rw [← append_pair_bit, decodeFrame32W0_missingTc]
      exact ⟨rfl, rfl, rfl⟩
    · rw [← append_bit_pair, decodeFrame32W0_gndShort]
      exact ⟨rfl, rfl, rfl⟩
    · rw [decodeFrame32W0_vccShort]
      exact ⟨rfl, rfl, rfl⟩
    · rw [decodeFrame32W0_genericFault]
      exact ⟨rfl, rfl, rfl⟩

theorem encode_decodeFrame32 (sel : CflagSel) (w0 w1 : Word16) :
    encode (decodeFrame32 sel w0 w1) = wordBytes w0 ++ wordBytes w1 ∧ formatOf (decodeFrame32 sel w0 w1) = .frame32 ∧
    (decodeFrame32 sel w0 w1).needs = some sel := by
  cases sel with
  | w1Bit0 => exact encode_decodeFrame32W1 w0 w1
  | w0Bit0 => exact encode_decodeFrame32W0 w0 w1

/-! ## Encoding and decoding bytes -/

section
variable {sel : CflagSel} {i : Instr}

theorem decode_commandBytes_of_eq {cmd : BitVec 4} (h : decodeCmd cmd = i) :
    decode sel .command (commandBytes cmd) = .instr i := by
  rw [decode_commandBytes, h]

theorem decode_frame16_of_eq {w : Word16} (h : decodeFrame16 w = i) :
    decode sel .frame16 (wordBytes w) = .instr i := by
  rw [decode_frame16_wordBytes, h]

theorem decode_frame32_of_eq {w0 w1 : Word16} (h : decodeFrame32 sel w0 w1 = i) :
    decode sel .frame32 (wordBytes w0 ++ wordBytes w1) = .instr i := by
  rw [decode_frame32_wordBytes, h]

/-- Everything the decoder accepts: a command word in one byte, one word or two words. -/
theorem decode_eq_instr {format : Format} {bytes : List Byte} (h : decode sel format bytes = .instr i) :
    (format = .command ∧ ∃ cmd, bytes = commandBytes cmd ∧ i = decodeCmd cmd) ∨
    (format = .frame16 ∧ ∃ w, bytes = wordBytes w ∧ i = decodeFrame16 w) ∨
    (format = .frame32 ∧ ∃ w0 w1, bytes = wordBytes w0 ++ wordBytes w1 ∧ i = decodeFrame32 sel w0 w1) := by
  unfold decode at h
  split at h
  case h_1 b =>
    split at h
    case isTrue hhigh =>
      refine .inl ⟨rfl, b.extractLsb' 0 4, ?_, (Decoded.instr.inj h).symm⟩
      rw [commandBytes, ← hhigh, BitVec.extractLsb'_append_extractLsb']
    case isFalse => cases h
  case h_2 b0 b1 => exact .inr (.inl ⟨rfl, b0 ++ b1, (wordBytes_append b0 b1).symm, (Decoded.instr.inj h).symm⟩)
  case h_3 b0 b1 b2 b3 =>
    refine .inr (.inr ⟨rfl, b0 ++ b1, b2 ++ b3, ?_, (Decoded.instr.inj h).symm⟩)
    rw [wordBytes_append, wordBytes_append]
    rfl
  case h_4 => cases h

theorem wellFormed_of_needs_none (h : i.needs = none) : WellFormed sel i = true := by
  rw [WellFormed, h]

theorem wellFormed_iff_of_needs {needed : CflagSel} (h : i.needs = some needed) :
    WellFormed sel i = true ↔ needed = sel := by
  rw [WellFormed, h]
  exact decide_eq_true_iff

end

/-! ## The obligations -/

/-- Settles O2: the decoder is evaluated on each frame. -/
theorem frameWordsDecode : Obligations.FrameWordsDecode := by
  unfold Obligations.FrameWordsDecode
  exact ⟨rfl, rfl, rfl, rfl, rfl, rfl, rfl, rfl, rfl⟩

/-- Settles O3: a row's encoding is a laid-out frame, whose pattern decodes to the row (`decodeFrame16_ok` and the
eight lemmas after it); a 4-byte row is well-formed for the CFLAG_SEL of its format only. -/
theorem decodeOfEncode : Obligations.DecodeOfEncode := by
  unfold Obligations.DecodeOfEncode
  intro sel i hwf
  cases i with
  | tcraw unit => exact decode_commandBytes_of_eq (decodeCmd_unit_append_00 unit)
  | allraw unit => exact decode_commandBytes_of_eq (decodeCmd_unit_append_01 unit)
  | tccnvC | tccnvF | tccnvK | allcnvC | allcnvF | allcnvK => exact decode_commandBytes_of_eq rfl
  | reserved wide =>
    rcases bit_cases wide with rfl | rfl
    · exact decode_commandBytes_of_eq decodeCmd_1110
    · exact decode_commandBytes_of_eq decodeCmd_1111
  | f16Ok t r => exact decode_frame16_of_eq (decodeFrame16_ok t r)
  | f16GenericFault x r => exact decode_frame16_of_eq (decodeFrame16_genericFault x r)
  | f32Ok t r0 i r1 x =>
    obtain rfl := (wellFormed_iff_of_needs rfl).mp hwf
    exact decode_frame32_of_eq (decodeFrame32W1_ok t i r1 r0 x)
  | f32MissingTc x0 r0 x1 r1 x2 =>
    obtain rfl := (wellFormed_iff_of_needs rfl).mp hwf
    exact decode_frame32_of_eq (decodeFrame32W1_missingTc x0 x1 r1 r0 x2)
  | f32w0Ok t r0 i r1 x =>
    obtain rfl := (wellFormed_iff_of_needs rfl).mp hwf
    exact decode_frame32_of_eq (decodeFrame32W0_ok t i r0 r1 x)
  | f32w0MissingTc x0 r0 x1 r1 x2 =>
    obtain rfl := (wellFormed_iff_of_needs rfl).mp hwf
    exact decode_frame32_of_eq (decodeFrame32W0_missingTc x0 x1 r0 r1 x2)
  | f32w0GndShort x0 r0 x1 r1 x2 =>
    obtain rfl := (wellFormed_iff_of_needs rfl).mp hwf
    exact decode_frame32_of_eq (decodeFrame32W0_gndShort x0 x1 r0 r1 x2)
  | f32w0VccShort x0 r0 x1 r1 =>
    obtain rfl := (wellFormed_iff_of_needs rfl).mp hwf
    exact decode_frame32_of_eq (decodeFrame32W0_vccShort x0 x1 r0 r1)
  | f32w0GenericFault x0 r0 x1 r1 =>
    obtain rfl := (wellFormed_iff_of_needs rfl).mp hwf
    exact decode_frame32_of_eq (decodeFrame32W0_genericFault x0 x1 r0 r1)

/-- Settles O4: what decodes is a command word or a frame (`decode_eq_instr`), and each of these is laid out as the
pattern of the row it decodes to (`encode_decodeCmd`, `encode_decodeFrame16`, `encode_decodeFrame32`). -/
theorem encodeOfDecode : Obligations.EncodeOfDecode := by
  unfold Obligations.EncodeOfDecode
  intro sel format bytes i h
  obtain ⟨rfl, cmd, rfl, rfl⟩ | ⟨rfl, w, rfl, rfl⟩ | ⟨rfl, w0, w1, rfl, rfl⟩ := decode_eq_instr h
  · obtain ⟨hencode, hformat, hneeds⟩ := encode_decodeCmd cmd
    exact ⟨hencode, hformat, wellFormed_of_needs_none hneeds⟩
  · obtain ⟨hencode, hformat, hneeds⟩ := encode_decodeFrame16 w
    exact ⟨hencode, hformat, wellFormed_of_needs_none hneeds⟩
  · obtain ⟨hencode, hformat, hneeds⟩ := encode_decodeFrame32 sel w0 w1
    exact ⟨hencode, hformat, (wellFormed_iff_of_needs hneeds).mpr rfl⟩

end Sys2Proof
end

section
/-! SUPPORT. Executing frame rows and commands (30_encoding R52, R57 to R62; 70_reset R176): a row's outcome is what
the Frame Decoder answers to its frame, and a step delivers it. -/

namespace Sys2Proof.Machine

/-! ## What a frame's row delivers -/

/-- The row of a 2-byte frame has the outcome that TCRAW decodes (43_block_operations R126). -/
theorem instrOutcome_decodeFrame16 (cfg : Config) (w0 w1 w : Word16) :
    instrOutcome cfg w0 w1 (decodeFrame16 w) = some ((dec16 w).map .raw) := by
  rw [decodeFrame16]
  cases hflag : w.getLsbD 0 with
  | true => rw [dec16_faulted hflag]; rfl
  | false => rw [dec16_clear hflag]; rfl

/-- The row of a 4-byte frame has the outcome that ALLRAW decodes (43_block_operations R130). -/
theorem instrOutcome_decodeFrame32 (cfg : Config) (w0 w1 : Word16) (sel : CflagSel) (v0 v1 : Word16) :
    instrOutcome cfg w0 w1 (decodeFrame32 sel v0 v1) =
      some ((dec32 sel v0 v1).map fun c => .rawPair c.1 c.2) := by
  cases sel with
  | w1Bit0 =>
    rw [dec32_w1Bit0, decodeFrame32, decodeFrame32W1]
    cases v1.getLsbD 0 <;> rfl
  | w0Bit0 =>
    rw [dec32_w0Bit0, decodeFrame32, decodeFrame32W0]
    cases v0.getLsbD 0 with
    | false => rfl
    | true =>
      cases v1.getLsbD 0 with
      | true => rfl
      | false =>
        cases v1.getLsbD 1 with
        | true => rfl
        | false => cases v1.getLsbD 2 <;> rfl

theorem exec_decodeFrame16 (w : Word16) (s : State) :
    exec (decodeFrame16 w) s = .next (finish s ((dec16 w).map .raw)) := by
  rw [exec_eq_deliver, instrOutcome_decodeFrame16]
  rfl

theorem exec_decodeFrame32 (sel : CflagSel) (w0 w1 : Word16) (s : State) :
    exec (decodeFrame32 sel w0 w1) s =
      .next (finish s ((dec32 sel w0 w1).map fun c => .rawPair c.1 c.2)) := by
  rw [exec_eq_deliver, instrOutcome_decodeFrame32]
  rfl

/-- An operation ends with one of the five outcomes on STATUS (30_encoding R56). -/
theorem finish_status (s : State) (o : Except FaultKind Result) :
    ∃ code, (finish s o).out.status = some code ∧ code.toNat ≤ 4 := by
  cases o with
  | error k => exact ⟨faultCode k, rfl, by cases k <;> decide⟩
  | ok r => exact ⟨0#3, resultOutputs_status r, by decide⟩

/-! ## A step that runs a command -/

/-- A step that runs an operation to its end lowers START and moves on to the next free value. -/
theorem step_of_exec {s t : State} (hstart : s.start = true) (h : exec (decodeCmd s.cmd) s = .next t) :
    step s = .next { t with start := false, draws := t.draws + 1 } := by
  rw [step_of_start hstart, h]
  rfl

/-! ## The obligations -/

/-- Settles O5: a frame's row delivers the outcome of `dec16` or `dec32`, and every outcome has its STATUS
(`finish_status`). -/
theorem noFrameIsIllegal : Obligations.NoFrameIsIllegal := by
  unfold Obligations.NoFrameIsIllegal
  constructor
  · intro sel b0 b1
    refine ⟨decodeFrame16 (b0 ++ b1), rfl, fun s => ?_⟩
    obtain ⟨code, hstatus, hcode⟩ := finish_status s ((dec16 (b0 ++ b1)).map .raw)
    exact ⟨_, code, exec_decodeFrame16 _ s, hstatus, hcode⟩
  · intro sel b0 b1 b2 b3
    refine ⟨decodeFrame32 sel (b0 ++ b1) (b2 ++ b3), rfl, fun s => ?_⟩
    obtain ⟨code, hstatus, hcode⟩ :=
      finish_status s ((dec32 sel (b0 ++ b1) (b2 ++ b3)).map fun c => .rawPair c.1 c.2)
    exact ⟨_, code, exec_decodeFrame32 sel _ _ s, hstatus, hcode⟩

/-- Settles O15: a frame's row and the raw operation of its width deliver one outcome (`exec_decodeFrame16` with
`exec_tcraw`, `exec_decodeFrame32` with `exec_allraw`). -/
theorem framePatternsAgreeWithDecoder : Obligations.FramePatternsAgreeWithDecoder := by
  unfold Obligations.FramePatternsAgreeWithDecoder
  exact ⟨fun s x => (exec_decodeFrame16 _ s).trans (exec_tcraw x s).symm,
    fun s x => (exec_decodeFrame32 _ _ _ s).trans (exec_allraw x s).symm⟩

/-- Settles O16: the patterns decode by `decodeFrame16_ok` and `decodeFrame16_genericFault`; a row's outcome is its own
fields' (`exec_eq_deliver`). -/
theorem frame16Rows : Obligations.Frame16Rows := by
  unfold Obligations.Frame16Rows
  exact ⟨fun t r s => ⟨decodeFrame16_ok t r, exec_eq_deliver (.f16Ok t r) s⟩,
    fun x r s => ⟨decodeFrame16_genericFault x r, exec_eq_deliver (.f16GenericFault x r) s⟩⟩

/-- Settles O17: as O16, by `decodeFrame32W1_ok` and `decodeFrame32W1_missingTc`; the closed form of `dec32` has no
other fault (`dec32_w1Bit0`). -/
theorem frame32Rows : Obligations.Frame32Rows := by
  unfold Obligations.Frame32Rows
  refine ⟨fun t r0 i r1 x s => ⟨decodeFrame32W1_ok t i r1 r0 x, exec_eq_deliver (.f32Ok t r0 i r1 x) s⟩,
    fun x0 r0 x1 r1 x2 s =>
      ⟨decodeFrame32W1_missingTc x0 x1 r1 r0 x2, exec_eq_deliver (.f32MissingTc x0 r0 x1 r1 x2) s⟩, ?dead⟩
  case dead =>
    intro w0 w1
    rw [dec32_w1Bit0]
    cases w1.getLsbD 0 <;> simp

/-- Settles O18: as O16, for the five patterns of `decodeFrame32W0_ok` and the four lemmas after it. -/
theorem frame32W0Rows : Obligations.Frame32W0Rows := by
  unfold Obligations.Frame32W0Rows
  refine ⟨fun t r0 i r1 x s => ⟨decodeFrame32W0_ok t i r0 r1 x, exec_eq_deliver (.f32w0Ok t r0 i r1 x) s⟩,
    fun x0 r0 x1 r1 x2 s =>
      ⟨decodeFrame32W0_missingTc x0 x1 r0 r1 x2, exec_eq_deliver (.f32w0MissingTc x0 r0 x1 r1 x2) s⟩,
    fun x0 r0 x1 r1 x2 s =>
      ⟨decodeFrame32W0_gndShort x0 x1 r0 r1 x2, exec_eq_deliver (.f32w0GndShort x0 r0 x1 r1 x2) s⟩,
    fun x0 r0 x1 r1 s => ⟨decodeFrame32W0_vccShort x0 x1 r0 r1, exec_eq_deliver (.f32w0VccShort x0 r0 x1 r1) s⟩,
    fun x0 r0 x1 r1 s =>
      ⟨decodeFrame32W0_genericFault x0 x1 r0 r1, exec_eq_deliver (.f32w0GenericFault x0 r0 x1 r1) s⟩⟩

/-- Settles O41: the byte that holds CMD decodes to the operation the step runs (`decode_commandBytes`). -/
theorem stepRunsTheCommand : Obligations.StepRunsTheCommand := by
  unfold Obligations.StepRunsTheCommand
  rintro s b i hstart rfl hdecode
  obtain rfl : decodeCmd s.cmd = i := Decoded.instr.inj ((decode_commandBytes _ s.cmd).symm.trans hdecode)
  refine ⟨fun t => step_of_exec hstart, fun f hexec => ?_, fun r hexec => ?_⟩
  · rw [step_of_start hstart, hexec, withAfter_fault]
  · rw [step_of_start hstart, hexec, withAfter_refused]

/-- Settles O42: the step runs the raw operation, which does what the row of the bytes on FRAME does. -/
theorem stepRunsTheFrameRow : Obligations.StepRunsTheFrameRow := by
  unfold Obligations.StepRunsTheFrameRow
  constructor
  · intro s x b0 b1 i hstart hcmd h0 h1 hdecode
    obtain rfl : decodeFrame16 (word b0 b1) = i := Decoded.instr.inj hdecode
    refine ⟨_, exec_decodeFrame16 _ s, step_of_exec hstart ?_⟩
    rw [hcmd, decodeCmd_unit_append_00, exec_tcraw, frameWord0_of_bytes h0 h1]
  · intro s x b0 b1 b2 b3 i hstart hcmd h0 h1 h2 h3 hdecode
    obtain rfl : decodeFrame32 s.config.cflagSel (word b0 b1) (word b2 b3) = i := Decoded.instr.inj hdecode
    refine ⟨_, exec_decodeFrame32 _ _ _ s, step_of_exec hstart ?_⟩
    rw [hcmd, decodeCmd_unit_append_01, exec_allraw, frameWord0_of_bytes h0 h1, frameWord1_of_bytes h2 h3]

end Sys2Proof.Machine
end

section
/-! SUPPORT. The output ports after an operation (10_state R20, R26), what an operation leaves unchanged (20_memory
R34, R37), and the Fahrenheit and Kelvin operations (43_block_operations R128, R129, R132, R133). -/

namespace Sys2Proof.Machine

/-! ## Counts in range on the ports -/

/-- The counts that a reading carries are in range (10_state R26). Tied to the ports by
`outputsOk_resultOutputs`. -/
def countsInRange : Result → Prop
  | .raw tc => isTcCount tc = true
  | .rawPair tc int => isTcCount tc = true ∧ isIntCount int = true
  | .converted _ | .convertedPair _ _ _ => True

theorem isTcCount_sext14 (f : BitVec 14) : isTcCount (sext14 f) = true := isTcCount_iff.mpr (sext14_mem_range f)

theorem isIntCount_sext12 (f : BitVec 12) : isIntCount (sext12 f) = true := isIntCount_iff.mpr (sext12_mem_range f)

theorem outputsOk_faultOutputs (k : FaultKind) : outputsOk (faultOutputs k) = true := by
  cases k <;> rfl

theorem unitCode_ne_3 (u : TempUnit) : unitCode u ≠ 3#2 := by
  cases u <;> decide

theorem outputsOk_resultOutputs {r : Result} (h : countsInRange r) : outputsOk (resultOutputs r) = true := by
  cases r with
  | raw tc => exact h
  | rawPair tc int => exact Bool.and_eq_true_iff.mpr h
  | converted tc => rfl
  | convertedPair tc int u => exact decide_eq_true (unitCode_ne_3 u)

/-- An outcome whose reading, if it is one, carries counts in range drives a legal pattern. -/
theorem outputsOk_finish (s : State) {o : Except FaultKind Result} (h : ∀ r, o = .ok r → countsInRange r) :
    (finish s o).out.valid = true ∧ outputsOk (finish s o).out = true := by
  cases o with
  | error k => exact ⟨rfl, outputsOk_faultOutputs k⟩
  | ok r => exact ⟨by cases r <;> rfl, outputsOk_resultOutputs (h r rfl)⟩

theorem countsInRange_of_dec16 {w : Word16} {f : Count → Result} (hf : ∀ tc, isTcCount tc = true → countsInRange (f tc))
    {r : Result} (h : (dec16 w).map f = .ok r) : countsInRange r := by
  cases hdec : dec16 w with
  | error k => rw [hdec] at h; cases h
  | ok tc =>
    rw [hdec] at h
    obtain rfl := Except.ok.inj h
    exact hf tc (dec16_eq_ok hdec ▸ isTcCount_sext14 _)

theorem countsInRange_of_dec32 {sel : CflagSel} {w0 w1 : Word16} {f : Count × Count → Result}
    (hf : ∀ tc int, isTcCount tc = true → isIntCount int = true → countsInRange (f (tc, int)))
    {r : Result} (h : (dec32 sel w0 w1).map f = .ok r) : countsInRange r := by
  cases hdec : dec32 sel w0 w1 with
  | error k => rw [hdec] at h; cases h
  | ok c =>
    obtain ⟨tc, int⟩ := c
    obtain ⟨htc, hint⟩ := dec32_eq_ok hdec
    rw [hdec] at h
    obtain rfl := Except.ok.inj h
    exact hf tc int (htc ▸ isTcCount_sext14 _) (hint ▸ isIntCount_sext12 _)

/-- Every reading an instruction delivers carries counts in range (10_state R26, 40_frame_decoder R82). -/
theorem countsInRange_of_instrOutcome {cfg : Config} {w0 w1 : Word16} {i : Instr} {r : Result}
    (h : instrOutcome cfg w0 w1 i = some (.ok r)) : countsInRange r := by
  cases i with
  | tcraw unit => exact countsInRange_of_dec16 (fun _ => id) (Option.some.inj h)
  | tccnvC | tccnvF | tccnvK =>
    refine countsInRange_of_dec16 ?_ (Option.some.inj h)
    exact fun _ _ => trivial
  | allraw unit => exact countsInRange_of_dec32 (fun _ _ => And.intro) (Option.some.inj h)
  | allcnvC | allcnvF | allcnvK =>
    refine countsInRange_of_dec32 ?_ (Option.some.inj h)
    exact fun _ _ _ _ => trivial
  | f16Ok t r =>
    obtain rfl := Except.ok.inj (Option.some.inj h)
    exact isTcCount_sext14 t
  | f32Ok t r0 n r1 x | f32w0Ok t r0 n r1 x =>
    obtain rfl := Except.ok.inj (Option.some.inj h)
    exact ⟨isTcCount_sext14 t, isIntCount_sext12 n⟩
  | reserved wide => cases h
  | f16GenericFault x r | f32MissingTc x0 r0 x1 r1 x2 => cases h
  | f32w0MissingTc x0 r0 x1 r1 x2 | f32w0GndShort x0 r0 x1 r1 x2 => cases h
  | f32w0VccShort x0 r0 x1 r1 | f32w0GenericFault x0 r0 x1 r1 => cases h

/-- If exec gives a next state, that state is the delivery of the instruction's outcome. -/
theorem exec_eq_next {i : Instr} {s t : State} (h : exec i s = .next t) :
    ∃ o, instrOutcome s.config (frameWord0 s) (frameWord1 s) i = some o ∧ t = finish s o := by
  rw [exec_eq_deliver] at h
  cases ho : instrOutcome s.config (frameWord0 s) (frameWord1 s) i with
  | none => rw [ho] at h; cases h
  | some o =>
    rw [ho] at h
    exact ⟨o, rfl, (Host.Outcome.next.inj h).symm⟩

/-- Settles O29: an operation delivers an outcome (`exec_eq_next`), whose counts are in range
(`countsInRange_of_instrOutcome`), and every such outcome drives a legal pattern (`outputsOk_finish`). -/
theorem portsAfterAnOperation : Obligations.PortsAfterAnOperation := by
  unfold Obligations.PortsAfterAnOperation
  intro i s t h
  obtain ⟨o, ho, rfl⟩ := exec_eq_next h
  exact outputsOk_finish s fun r hr => countsInRange_of_instrOutcome (hr ▸ ho)

/-! ## What an operation leaves unchanged, and what it ignores -/

/-- Settles O30: an instruction drives the output ports alone (`exec_cases`). -/
theorem instructionFrame : Obligations.InstructionFrame := by
  unfold Obligations.InstructionFrame
  intro i s t h
  rw [exec_cases h]
  exact ⟨rfl, rfl, rfl, rfl, rfl, fun _ => rfl⟩

/-- The outcome of a 16-bit mode operation does not mention FRAME[15:0] (10_state R13). -/
theorem instrOutcome_of_isOp16 {i : Instr} (hi : isOp16 i = true) (cfg : Config) (w0 w1 w1' : Word16) :
    instrOutcome cfg w0 w1 i = instrOutcome cfg w0 w1' i := by
  cases i with
  | tcraw _ | tccnvC | tccnvF | tccnvK => rfl
  | _ => cases hi

/-- Settles O32: both runs deliver one outcome, since only the upper half of FRAME is in it
(`instrOutcome_of_isOp16`). -/
theorem narrowModeIgnoresLowHalf : Obligations.NarrowModeIgnoresLowHalf := by
  unfold Obligations.NarrowModeIgnoresLowHalf
  intro i s s' t t' hi hcfg hframe h h'
  rw [framePort_upper, framePort_upper] at hframe
  rw [exec_eq_deliver] at h h'
  rw [hcfg, hframe, instrOutcome_of_isOp16 hi s'.config _ _ (frameWord1 s')] at h
  exact out_eq_of_deliver h h'

/-! ## The Fahrenheit and Kelvin operations -/

/-- TCCNV.F completes with the outcome of `dec16`, scaled and converted (43_block_operations R128). -/
theorem exec_tccnvF (s : State) :
    exec .tccnvF s = .next (finish s ((dec16 (frameWord0 s)).map fun tc =>
      .converted (unitF s.config.numerics (cvtcTc s.config.numerics tc)))) :=
  exec_eq_deliver .tccnvF s

/-- TCCNV.K, likewise (43_block_operations R129). -/
theorem exec_tccnvK (s : State) :
    exec .tccnvK s = .next (finish s ((dec16 (frameWord0 s)).map fun tc =>
      .converted (unitK s.config.numerics (cvtcTc s.config.numerics tc)))) :=
  exec_eq_deliver .tccnvK s

/-- ALLCNV.F completes with the outcome of `dec32`, each count scaled and converted (43_block_operations R132). -/
theorem exec_allcnvF (s : State) :
    exec .allcnvF s = .next (finish s
      ((dec32 s.config.cflagSel (frameWord0 s) (frameWord1 s)).map fun c =>
        .convertedPair (unitF s.config.numerics (cvtcTc s.config.numerics c.1))
          (unitF s.config.numerics (cvtcInt s.config.numerics c.2)) .fahrenheit)) :=
  exec_eq_deliver .allcnvF s

/-- ALLCNV.K, likewise (43_block_operations R133). -/
theorem exec_allcnvK (s : State) :
    exec .allcnvK s = .next (finish s
      ((dec32 s.config.cflagSel (frameWord0 s) (frameWord1 s)).map fun c =>
        .convertedPair (unitK s.config.numerics (cvtcTc s.config.numerics c.1))
          (unitK s.config.numerics (cvtcInt s.config.numerics c.2)) .kelvin)) :=
  exec_eq_deliver .allcnvK s

/-! The values of the examples: 10.0 and 2.5 degrees, and 25.0 degrees on both channels. -/

theorem dec16_bytes_00_A0 : dec16 (word 0x00#8 0xA0#8) = .ok 40#16 := rfl
theorem cvtcTc_40 : cvtcTc .binary32 40#16 = 0x41200000#32 := by decide
theorem unitF_10_degrees : unitF .binary32 0x41200000#32 = 0x42480000#32 := by decide
theorem unitF_2_5_degrees : unitF .binary32 0x40200000#32 = 0x42120000#32 := by decide
theorem unitF_25_degrees : unitF .binary32 0x41C80000#32 = 0x429A0000#32 := by decide
theorem unitK_10_degrees : unitK .binary32 0x41200000#32 = 0x438D9333#32 := by decide
theorem unitK_25_degrees : unitK .binary32 0x41C80000#32 = 0x43951333#32 := by decide

/-! What a 16-bit and a 32-bit mode operation answer to a clear, a faulted and a given frame (43_block_operations
R125), once for all of them. -/

section
variable {i : Instr} {s : State}

section
variable {f : Count → Result} (hexec : exec i s = .next (finish s ((dec16 (frameWord0 s)).map f)))
include hexec

theorem outcomes_of_exec_dec16 :
    ((frameWord0 s).getLsbD 0 = false →
      exec i s = .next (setOut s (resultOutputs (f (sext14 (xtc (frameWord0 s))))))) ∧
    ((frameWord0 s).getLsbD 0 = true → exec i s = .next (setOut s (portsOfFault 1#3))) :=
  ⟨fun hflag => by rw [hexec, finish_dec16_clear s hflag], fun hflag => by rw [hexec, finish_dec16_faulted s hflag]⟩

theorem reading_of_exec_dec16 {b0 b1 : Byte} {tc : Count} (hdec : dec16 (word b0 b1) = .ok tc)
    (h0 : byteAt s.frame 0 = some b0) (h1 : byteAt s.frame 1 = some b1) :
    exec i s = .next (setOut s (resultOutputs (f tc))) := by
  rw [hexec, frameWord0_of_bytes h0 h1, hdec, Except.map, finish_ok]

end

section
variable {f : Count × Count → Result}
  (hexec : exec i s = .next (finish s ((dec32 s.config.cflagSel (frameWord0 s) (frameWord1 s)).map f)))
include hexec

theorem outcomes_of_exec_dec32 :
    (resolve32 (splitFaultBits s.config.cflagSel (frameWord0 s) (frameWord1 s)) = none → exec i s =
      .next (setOut s (resultOutputs (f (sext14 (xtc (frameWord0 s)), sext12 (xint (frameWord1 s))))))) ∧
    (∀ k, resolve32 (splitFaultBits s.config.cflagSel (frameWord0 s) (frameWord1 s)) = some k →
      exec i s = .next (setOut s (portsOfFault (faultCode k)))) :=
  ⟨fun hfault => by rw [hexec, finish_dec32_clear s hfault],
    fun k hfault => by rw [hexec, finish_dec32_faulted s hfault]⟩

theorem reading_of_exec_dec32 {b0 b1 b2 b3 : Byte} {tc int : Count}
    (hdec : dec32 s.config.cflagSel (word b0 b1) (word b2 b3) = .ok (tc, int))
    (h0 : byteAt s.frame 0 = some b0) (h1 : byteAt s.frame 1 = some b1) (h2 : byteAt s.frame 2 = some b2)
    (h3 : byteAt s.frame 3 = some b3) : exec i s = .next (setOut s (resultOutputs (f (tc, int)))) := by
  rw [hexec, frameWord0_of_bytes h0 h1, frameWord1_of_bytes h2 h3, hdec, Except.map, finish_ok]

end

end

/-- Settles O21: bit 0 of the word decides between the two outcomes of `dec16` (`outcomes_of_exec_dec16`); the examples
are 10.0 and 2.5 degrees. -/
theorem tccnvFResult : Obligations.TccnvFResult := by
  unfold Obligations.TccnvFResult
  refine ⟨rfl, fun s => outcomes_of_exec_dec16 (exec_tccnvF s), ?hot, ?warm⟩
  case hot =>
    intro s hnumerics h0 h1
    rw [reading_of_exec_dec16 (exec_tccnvF s) dec16_bytes_00_A0 h0 h1, hnumerics, cvtcTc_40, unitF_10_degrees]
    rfl
  case warm =>
    intro s hnumerics h0 h1
    rw [reading_of_exec_dec16 (exec_tccnvF s) dec16_bytes_00_28 h0 h1, hnumerics, cvtcTc_10, unitF_2_5_degrees]
    rfl

/-- Settles O22: as O21, in Kelvin. -/
theorem tccnvKResult : Obligations.TccnvKResult := by
  unfold Obligations.TccnvKResult
  refine ⟨rfl, fun s => outcomes_of_exec_dec16 (exec_tccnvK s), ?vector⟩
  case vector =>
    intro s hnumerics h0 h1
    rw [reading_of_exec_dec16 (exec_tccnvK s) dec16_bytes_00_A0 h0 h1, hnumerics, cvtcTc_40, unitK_10_degrees]
    rfl

/-- Settles O25: `resolve32` decides between the two outcomes of `dec32` (`outcomes_of_exec_dec32`); in the example both
channels are at 25.0 degrees. -/
theorem allcnvFResult : Obligations.AllcnvFResult := by
  unfold Obligations.AllcnvFResult
  refine ⟨rfl, fun s => outcomes_of_exec_dec32 (exec_allcnvF s), ?vector⟩
  case vector =>
    intro s hnumerics h0 h1 h2 h3
    rw [reading_of_exec_dec32 (exec_allcnvF s) (dec32_bytes_01_90_19_00 _) h0 h1 h2 h3, hnumerics, cvtcTc_100,
      cvtcInt_400, unitF_25_degrees]
    rfl

/-- Settles O26: as O25, in Kelvin. -/
theorem allcnvKResult : Obligations.AllcnvKResult := by
  unfold Obligations.AllcnvKResult
  refine ⟨rfl, fun s => outcomes_of_exec_dec32 (exec_allcnvK s), ?vector⟩
  case vector =>
    intro s hnumerics h0 h1 h2 h3
    rw [reading_of_exec_dec32 (exec_allcnvK s) (dec32_bytes_01_90_19_00 _) h0 h1 h2 h3, hnumerics, cvtcTc_100,
      cvtcInt_400, unitK_25_degrees]
    rfl

end Sys2Proof.Machine
end

section
/-! SUPPORT. The functions of the default NUMERICS where they do not overflow (41_unit_converter R99), and the size of
the values that the Unit Converter gives (R102). -/

namespace Sys2Proof.Machine

/-! ## Rounding to nearest even (41_unit_converter R99) -/

/-- Magnitude bits too large for a finite pattern pack to the infinity. -/
theorem isFinite_packBits_of_le (neg : Bool) {bits : Nat} (h : 0x7F800000 ≤ bits) :
    isFinite (packBits neg bits) = false := by
  rw [packBits, min_eq_right h]
  cases neg <;> decide

/-- A rounding whose result is finite did not overflow, so it is the nearest pattern. -/
theorem roundPack_roundsTo_of_isFinite {neg : Bool} {mag : Nat} {exp : Int}
    (h : isFinite (roundPack neg mag exp) = true) :
    RoundsTo (signFactor neg * (mag * (2 : ℚ) ^ exp)) (roundPack neg mag exp) := by
  unfold roundPack at h ⊢
  split_ifs at h ⊢ with hzero
  · simpa [hzero] using packBits_zero_roundsTo neg
  · refine packBits_roundBits_roundsTo neg hzero ?_
    by_contra! hlarge
    rw [isFinite_packBits_of_le neg hlarge] at h
    cases h

/-- Settles O36: a product is one rounding of the exact one (`fmulBinary32_eq_roundPack`), and a rounding that does not
overflow is the nearest pattern (`RoundsTo.isNearestEven`). -/
theorem multiplicationRoundsToNearestEven : Obligations.MultiplicationRoundsToNearestEven := by
  unfold Obligations.MultiplicationRoundsToNearestEven
  intro a b ha hb hab
  obtain ⟨neg, mag, exp, hround, hvalue⟩ := fmulBinary32_eq_roundPack ha hb
  rw [fmul32, hround] at hab ⊢
  rw [hvalue]
  exact (roundPack_roundsTo_of_isFinite hab).isNearestEven

/-- Settles O37: as O36, for the sum (`faddBinary32_eq_roundPack`). -/
theorem additionRoundsToNearestEven : Obligations.AdditionRoundsToNearestEven := by
  unfold Obligations.AdditionRoundsToNearestEven
  intro a b ha hb hab
  obtain ⟨neg, mag, exp, hround, hvalue⟩ := faddBinary32_eq_roundPack ha hb
  rw [fadd32, hround] at hab ⊢
  rw [hvalue]
  exact (roundPack_roundsTo_of_isFinite hab).isNearestEven

/-! ## The size of the results (41_unit_converter R102) -/

/-- A value near an exact one that is far enough below the limit is below it too. -/
theorem abs_lt_3718_of_near {u x : ℚ} (hnear : |u - x| ≤ 1 / 1000) (hlo : -3717 ≤ x) (hhi : x ≤ 74359 / 20) :
    |u| < 3718 := by
  obtain ⟨hulo, huhi⟩ := abs_le.mp hnear
  exact abs_lt.mpr ⟨by linarith, by linarith⟩

/-- Within 2048 degrees Celsius nothing overflows on the way to a unit, and results near their exact values `xF` and
`xK` are as small as these. -/
theorem units_finite_and_lt_3718 {t : Temp} {xF xK : ℚ} (ht : isFinite t = true) (hbound : |f32Value t| ≤ 2048)
    (hF : |f32Value (unitF .binary32 t) - xF| ≤ 1953125 / 10000000000) (hxF : -3717 ≤ xF ∧ xF ≤ 74359 / 20)
    (hK : |f32Value (unitK .binary32 t) - xK| ≤ 9765625 / 100000000000) (hxK : -3717 ≤ xK ∧ xK ≤ 74359 / 20) :
    isFinite t = true ∧ |f32Value t| < 3718 ∧ isFinite (fmul32 .binary32 t (constFMul .binary32)) = true ∧
    isFinite (unitF .binary32 t) = true ∧ |f32Value (unitF .binary32 t)| < 3718 ∧
    isFinite (unitK .binary32 t) = true ∧ |f32Value (unitK .binary32 t)| < 3718 :=
  ⟨ht, hbound.trans_lt (by norm_num), (fmul_fMul_roundsTo ht hbound).finite,
    (unitF_roundsTo ht hbound).finite, abs_lt_3718_of_near (hF.trans (by norm_num)) hxF.1 hxF.2,
    (unitK_roundsTo ht hbound).finite, abs_lt_3718_of_near (hK.trans (by norm_num)) hxK.1 hxK.2⟩

/-- Settles O38: the stages are roundings away from overflow, and the results are within their accuracy of the exact
values (`units_finite_and_lt_3718`), the largest of which is 3717.95, at count 8191 in Fahrenheit. -/
theorem noSpecialValues : Obligations.NoSpecialValues := by
  unfold Obligations.NoSpecialValues
  rintro c t (⟨hc, rfl⟩ | ⟨hc, rfl⟩)
  · obtain ⟨hlo, hhi⟩ := toInt_bounds_of_isTcCount hc
    obtain ⟨hfinite, hvalue⟩ := cvtcTc_exact c
    have hbound : |f32Value (cvtcTc .binary32 c)| ≤ 2048 := by
      rw [hvalue, abs_le]
      constructor <;> linarith
    exact units_finite_and_lt_3718 hfinite hbound (cvtcTc_unitF_accuracy hc) ⟨by linarith, by linarith⟩
      (cvtcTc_unitK_accuracy hc) ⟨by linarith, by linarith⟩
  · obtain ⟨hlo, hhi⟩ := toInt_bounds_of_isIntCount hc
    obtain ⟨hfinite, hvalue⟩ := cvtcInt_exact c
    have hbound : |f32Value (cvtcInt .binary32 c)| ≤ 2048 := by
      rw [hvalue, abs_le]
      constructor <;> linarith
    exact units_finite_and_lt_3718 hfinite hbound (cvtcInt_unitF_accuracy hc) ⟨by linarith, by linarith⟩
      (cvtcInt_unitK_accuracy hc) ⟨by linarith, by linarith⟩

end Sys2Proof.Machine
end

section
/-! SUPPORT. What one step can do to the block's ports and to the frame buffer (20_memory R37, 60_exceptions R155,
70_reset R170): the host's moves as named updates of the state, and one inversion lemma for the step of the host. -/

namespace Sys2Proof.Machine

/-! ## The host's moves as named updates -/

section
variable (s : State)

@[simp] theorem endCall_eq : endCall s = setPhase (setFrame s []) .idle := rfl
@[simp] theorem failCall_eq (r : ApiResult) : failCall s r = addResult (setPhase (setFrame s []) .idle) r := rfl
@[simp] theorem stepStart_eq (op : ApiOp) :
    stepStart op s = setPhase (setStart (setCmd s (apiCmd op)) true) (.collecting op) := rfl
@[simp] theorem resetBlock_eq : resetBlock s = setOut s Outputs.reset := rfl

variable {c : Call}

theorem stepDriveLow_of_ok (h : c.driveLow = .ok) :
    stepDriveLow c s = setPhase (setCsLine (addEvent s (.setCs .low .ok)) (some .low))
      (.exchanging c (exchangeWait c.exchange)) := by
  rw [stepDriveLow, h]

theorem stepDriveLow_of_error {e : PinError} (h : c.driveLow = .error e) :
    stepDriveLow c s = failCall (setCsLine (addEvent s (.setCs .low (.error e))) none) (.pin e) := by
  rw [stepDriveLow, h]

theorem stepExchange_of_received {b0 b1 b2 b3 : Byte}
    (h : exchangeAnswer c.exchange = some (.received b0 b1 b2 b3)) :
    stepExchange c s =
      setPhase (setFrame (addEvent s (.exchange (apiLen c.op) (.received b0 b1 b2 b3)))
        (loadFrame (takeBytes (apiLen c.op) b0 b1 b2 b3))) (.drivingHigh c) := by
  rw [stepExchange, h]

theorem stepExchange_of_error {e : TransportError} (h : exchangeAnswer c.exchange = some (.error e)) :
    stepExchange c s = failCall (addEvent s (.exchange (apiLen c.op) (.error e))) (.transport e) := by
  rw [stepExchange, h]

theorem stepExchange_of_cancelled (h : exchangeAnswer c.exchange = none) :
    stepExchange c s = endCall (setCsLine (addEvent s (.exchangeCancelled (apiLen c.op))) none) := by
  rw [stepExchange, h]

theorem stepDriveHigh_of_ok (h : c.driveHigh = .ok) :
    stepDriveHigh c s = setPhase (setCsLine (addEvent s (.setCs .high .ok)) (some .high)) (.starting c.op) := by
  rw [stepDriveHigh, h]

theorem stepDriveHigh_of_error {e : PinError} (h : c.driveHigh = .error e) :
    stepDriveHigh c s = failCall (setCsLine (addEvent s (.setCs .high (.error e))) none) (.pin e) := by
  rw [stepDriveHigh, h]

end

/-! ## What a step of the host does to the block -/

/-- What a step of the host can do to the ports of the block and to the frame buffer. Tied to `stepHost` by
`hostMove_of_stepHost`. -/
inductive HostMove (s t : State) : Prop where
  /-- Nothing, but that the end or the beginning of a call empties the buffer (20_memory R38). -/
  | quiet (hconfig : t.config = s.config) (hstart : t.start = s.start) (hout : t.out = s.out)
      (hframe : t.frame = s.frame ∨ t.frame = [])
  /-- A successful exchange overwrites the buffer (42_transaction_wrapper R114). -/
  | received (c : Call) (b0 b1 b2 b3 : Byte) (hphase : s.env.phase = .exchanging c 0)
      (hanswer : exchangeAnswer c.exchange = some (.received b0 b1 b2 b3)) (hconfig : t.config = s.config)
      (hstart : t.start = s.start) (hout : t.out = s.out)
      (hframe : t.frame = loadFrame (takeBytes (apiLen c.op) b0 b1 b2 b3))
  /-- The operation of a call is started (43_block_operations R134 to R137). -/
  | started (op : ApiOp) (hphase : s.env.phase = .starting op) (hconfig : t.config = s.config)
      (hout : t.out = s.out) (hframe : t.frame = s.frame)
  /-- A bare operation is started on the frame it places (70_reset R172). -/
  | operated (cmd : BitVec 4) (bytes : FrameBytes) (rest : List HostAction) (hphase : s.env.phase = .idle)
      (htodo : s.env.todo = .operate cmd bytes :: rest) (hconfig : t.config = s.config) (hout : t.out = s.out)
      (hframe : t.frame = loadFrame bytes)
  /-- The host resets the block (70_reset R170). -/
  | reset (rest : List HostAction) (hphase : s.env.phase = .idle) (htodo : s.env.todo = .reset :: rest)
      (hconfig : t.config = s.config) (hstart : t.start = s.start) (hframe : t.frame = s.frame)

section
variable {s t : State}

theorem hostMove_of_stepDriveLow (c : Call) : HostMove s (stepDriveLow c s) := by
  cases h : c.driveLow with
  | ok => rw [stepDriveLow_of_ok s h]; exact .quiet rfl rfl rfl (.inl rfl)
  | error e => rw [stepDriveLow_of_error s h]; exact .quiet rfl rfl rfl (.inr rfl)

theorem hostMove_of_stepExchange {c : Call} (hphase : s.env.phase = .exchanging c 0) :
    HostMove s (stepExchange c s) := by
  match h : exchangeAnswer c.exchange with
  | some (.received b0 b1 b2 b3) =>
    rw [stepExchange_of_received s h]
    exact .received c b0 b1 b2 b3 hphase h rfl rfl rfl rfl
  | some (.error e) => rw [stepExchange_of_error s h]; exact .quiet rfl rfl rfl (.inr rfl)
  | none => rw [stepExchange_of_cancelled s h]; exact .quiet rfl rfl rfl (.inr rfl)

theorem hostMove_of_stepDriveHigh (c : Call) : HostMove s (stepDriveHigh c s) := by
  cases h : c.driveHigh with
  | ok => rw [stepDriveHigh_of_ok s h]; exact .quiet rfl rfl rfl (.inl rfl)
  | error e => rw [stepDriveHigh_of_error s h]; exact .quiet rfl rfl rfl (.inr rfl)

theorem hostMove_of_stepAction {a : HostAction} {rest : List HostAction} (hphase : s.env.phase = .idle)
    (htodo : s.env.todo = a :: rest) (h : stepAction a (setTodo s rest) = .next t) : HostMove s t := by
  cases a with
  | call c => obtain rfl := Host.Outcome.next.inj h; exact .quiet rfl rfl rfl (.inr rfl)
  | operate cmd bytes =>
    obtain rfl := Host.Outcome.next.inj h
    exact .operated cmd bytes rest hphase htodo rfl rfl rfl
  | read port => obtain rfl := Host.Outcome.next.inj h; exact .quiet rfl rfl rfl (.inl rfl)
  | reset => obtain rfl := Host.Outcome.next.inj h; exact .reset rest hphase htodo rfl rfl rfl

/-- Every step of the host is one of the moves. -/
theorem hostMove_of_stepHost (h : stepHost s = .next t) : HostMove s t := by
  obtain ⟨c, -, rfl⟩ | ⟨c, left, -, rfl⟩ | ⟨c, hphase, rfl⟩ | ⟨c, -, rfl⟩ | ⟨op, hphase, rfl⟩ |
    ⟨op, r, -, -, -, rfl⟩ | ⟨op, -, -, rfl⟩ | ⟨-, -, rfl⟩ | ⟨a, rest, hphase, htodo, haction⟩ := stepHost_cases h
  · exact hostMove_of_stepDriveLow c
  · exact .quiet rfl rfl rfl (.inl rfl)
  · exact hostMove_of_stepExchange hphase
  · exact hostMove_of_stepDriveHigh c
  · exact .started op hphase rfl rfl rfl
  · exact .quiet rfl rfl rfl (.inr rfl)
  · exact .quiet rfl rfl rfl (.inr rfl)
  · exact .quiet rfl rfl rfl (.inl rfl)
  · exact hostMove_of_stepAction hphase htodo haction

theorem HostMove.config_eq (h : HostMove s t) : t.config = s.config := by
  cases h <;> assumption

/-- A step with START at 0 and no reset due is a move of the host, which does not see the resets to come. -/
theorem hostMove_of_step (h : step s = .next t) (hstart : s.start = false) (hdue : ∀ rest, s.env.resets ≠ 0 :: rest) :
    HostMove (tickResets s) t := by
  rw [step_of_host hstart hdue] at h
  exact hostMove_of_stepHost h

end

/-! ## The obligations -/

/-- Settles O44: an operation and a reset drive output ports alone, and the host has no move that touches the
parameters (`HostMove.config_eq`). -/
theorem configurationIsFixed : Obligations.ConfigurationIsFixed := by
  unfold Obligations.ConfigurationIsFixed
  intro s t h
  obtain ⟨-, u, hexec, rfl⟩ | ⟨-, rest, -, rfl⟩ | ⟨-, -, hhost⟩ := step_cases h
  · rw [exec_cases hexec]
    rfl
  · rfl
  · exact (hostMove_of_stepHost hhost).config_eq

/-- Settles O45: of the host's moves only a reset changes an output port. -/
theorem outputsAreRetained : Obligations.OutputsAreRetained := by
  unfold Obligations.OutputsAreRetained
  intro s t h hstart hdue hreset
  cases hostMove_of_step h hstart hdue with
  | quiet _ _ hout _ => exact hout
  | received _ _ _ _ _ _ _ _ _ hout _ => exact hout
  | started _ _ _ hout _ => exact hout
  | operated _ _ _ _ _ _ hout _ => exact hout
  | reset rest hphase htodo => exact absurd htodo (hreset rest hphase)

/-- Settles O43: with nothing to do the host's step is the identity; of its moves only the start of a call's operation
and a bare operation raise START. -/
theorem nothingStartsByItself : Obligations.NothingStartsByItself := by
  unfold Obligations.NothingStartsByItself
  constructor
  · rintro s ⟨hstart, hphase, hresets⟩ htodo
    rw [step_of_no_resets hstart hresets]
    simp only [stepHost, hphase, htodo]
  · intro s t hstart h hraised
    obtain ⟨hs, -⟩ | ⟨-, rest, -, rfl⟩ | ⟨-, -, hhost⟩ := step_cases h
    · rw [hstart] at hs; cases hs
    · exact absurd (hraised.symm.trans hstart) (by decide)
    · have hkept : t.start ≠ (tickResets s).start := by rw [hraised, tickResets_start, hstart]; decide
      cases hostMove_of_stepHost hhost with
      | quiet _ hsame _ _ => exact absurd hsame hkept
      | received _ _ _ _ _ _ _ _ hsame _ _ => exact absurd hsame hkept
      | started op hphase => exact .inl ⟨op, hphase⟩
      | operated cmd bytes rest hphase htodo => exact .inr ⟨hphase, cmd, bytes, rest, htodo⟩
      | reset _ _ _ _ hsame _ => exact absurd hsame hkept

/-- A byte of the frame an exchange moved is the answer's byte at its offset. -/
theorem byteAt_loadFrame_takeBytes {len : FrameLen} {b0 b1 b2 b3 b : Byte} {a : Nat}
    (h : byteAt (loadFrame (takeBytes len b0 b1 b2 b3)) a = some b) :
    (a = 0 ∧ b = b0) ∨ (a = 1 ∧ b = b1) ∨ (len = .four ∧ ((a = 2 ∧ b = b2) ∨ (a = 3 ∧ b = b3))) := by
  cases len with
  | two =>
    rw [takeBytes, byteAt_loadFrame_two] at h
    split_ifs at h <;> simp_all
  | four =>
    rw [takeBytes, byteAt_loadFrame_four] at h
    split_ifs at h <;> simp_all

/-- Settles O46: the buffer is written by a received exchange and by the frame of a bare operation; every other move
keeps or empties it. -/
theorem onlyTheExchangeWritesTheBuffer : Obligations.OnlyTheExchangeWritesTheBuffer := by
  unfold Obligations.OnlyTheExchangeWritesTheBuffer
  intro s t a b h hbyte
  obtain ⟨-, u, hexec, rfl⟩ | ⟨-, rest, -, rfl⟩ | ⟨hstart, -, hhost⟩ := step_cases h
  · rw [exec_cases hexec] at hbyte
    exact .inl hbyte
  · exact .inl hbyte
  · cases hostMove_of_stepHost hhost with
    | quiet _ _ _ hframe =>
      rcases hframe with hframe | hframe
      · exact .inl (hframe ▸ hbyte)
      · rw [hframe] at hbyte
        cases hbyte
    | received c b0 b1 b2 b3 hphase hanswer _ _ _ hframe =>
      exact .inr (.inl ⟨c, b0, b1, b2, b3, hstart, hphase, hanswer, byteAt_loadFrame_takeBytes (hframe ▸ hbyte)⟩)
    | started _ _ _ _ hframe => exact .inl (hframe ▸ hbyte)
    | operated cmd bytes rest hphase htodo _ _ hframe =>
      exact .inr (.inr ⟨cmd, bytes, rest, hstart, hphase, htodo, hframe ▸ hbyte⟩)
    | reset _ _ _ _ _ hframe => exact .inl (hframe ▸ hbyte)

end Sys2Proof.Machine
end

section
/-! SUPPORT. Resets of the block (70_reset R170, R171), the host's reads of the ports (10_state R20), and its bare
operations (70_reset R172). -/

namespace Sys2Proof.Machine

/-! ## A reset that is not due yet -/

/-- An outcome with its next state, if it has one, changed. -/
def mapNext (f : State → State) : Host.Outcome State Fault Refusal → Host.Outcome State Fault Refusal
  | .next s => .next (f s)
  | .fault r => .fault r
  | .refused r => .refused r

section
variable (s : State) (r : List Nat)

theorem stepDriveLow_setResets (c : Call) : stepDriveLow c (setResets s r) = setResets (stepDriveLow c s) r := by
  cases h : c.driveLow with
  | ok => rw [stepDriveLow_of_ok _ h, stepDriveLow_of_ok _ h]; rfl
  | error e => rw [stepDriveLow_of_error _ h, stepDriveLow_of_error _ h]; rfl

theorem stepExchange_setResets (c : Call) : stepExchange c (setResets s r) = setResets (stepExchange c s) r := by
  match h : exchangeAnswer c.exchange with
  | some (.received b0 b1 b2 b3) => rw [stepExchange_of_received _ h, stepExchange_of_received _ h]; rfl
  | some (.error e) => rw [stepExchange_of_error _ h, stepExchange_of_error _ h]; rfl
  | none => rw [stepExchange_of_cancelled _ h, stepExchange_of_cancelled _ h]; rfl

theorem stepDriveHigh_setResets (c : Call) : stepDriveHigh c (setResets s r) = setResets (stepDriveHigh c s) r := by
  cases h : c.driveHigh with
  | ok => rw [stepDriveHigh_of_ok _ h, stepDriveHigh_of_ok _ h]; rfl
  | error e => rw [stepDriveHigh_of_error _ h, stepDriveHigh_of_error _ h]; rfl

theorem stepCollect_setResets (op : ApiOp) :
    stepCollect op (setResets s r) = mapNext (setResets · r) (stepCollect op s) := by
  rw [stepCollect, stepCollect, setResets_out, setResets_draws]
  cases s.out.valid with
  | true => cases resultOfStatus op s.draws s.out (portStatus s.draws s.out) <;> rfl
  | false => rfl

/-- No move of the host looks at the resets to come. -/
theorem stepHost_setResets : stepHost (setResets s r) = mapNext (setResets · r) (stepHost s) := by
  cases hphase : s.env.phase with
  | idle =>
    cases htodo : s.env.todo with
    | nil => simp only [stepHost, setResets_phase, setResets_todo, hphase, htodo, mapNext]
    | cons a rest =>
      simp only [stepHost, setResets_phase, setResets_todo, hphase, htodo]
      cases a <;> rfl
  | drivingLow c => simp only [stepHost, setResets_phase, hphase, stepDriveLow_setResets, mapNext]
  | exchanging c left =>
    cases left with
    | zero => simp only [stepHost, setResets_phase, hphase, stepExchange_setResets, mapNext]
    | succ left => simp only [stepHost, setResets_phase, hphase]; rfl
  | drivingHigh c => simp only [stepHost, setResets_phase, hphase, stepDriveHigh_setResets, mapNext]
  | starting op => simp only [stepHost, setResets_phase, hphase]; rfl
  | collecting op => simp only [stepHost, setResets_phase, hphase, stepCollect_setResets]

/-- Until a reset is due a step does what it does without it, and the reset comes one step nearer. -/
theorem step_of_reset_to_come {n : Nat} {rest : List Nat} (hstart : s.start = false)
    (hresets : s.env.resets = (n + 1) :: rest) :
    step s = mapNext (setResets · (n :: rest)) (step (setResets s [])) := by
  rw [step_of_host hstart (by simp [hresets]), step_of_no_resets (s := setResets s []) hstart rfl,
    ← stepHost_setResets, tickResets, hresets]
  rfl

end

/-! ## An action of a host at rest -/

/-- At rest a step is the next action of the host's program. -/
theorem step_of_atRest {s : State} {a : HostAction} {rest : List HostAction} (h : atRest s)
    (htodo : s.env.todo = a :: rest) : step s = stepAction a (setTodo s rest) := by
  obtain ⟨hstart, hphase, hresets⟩ := h
  rw [step_of_no_resets hstart hresets]
  simp only [stepHost, hphase, htodo]

/-- Settles O48: the two ways of reset drive the output ports alone; one that is not due changes nothing
(`step_of_reset_to_come`); no operation reads an output port (`exec_setOut`). -/
theorem resetActionEffect : Obligations.ResetActionEffect := by
  unfold Obligations.ResetActionEffect
  refine ⟨?host, ?outside, ?later, ?operation⟩
  case host =>
    intro s rest hrest htodo
    rw [step_of_atRest hrest htodo]
    rfl
  case outside =>
    intro s rest hstart hdue
    rw [step_of_reset_due hstart hdue]
    rfl
  case later =>
    rintro s u n rest hstart hresets rfl
    have hstep : step s = mapNext (setResets · (n :: rest)) (step (setResets s [])) :=
      step_of_reset_to_come s hstart hresets
    refine ⟨fun t h => ?_, fun f h => ?_, fun r h => ?_⟩
    · exact hstep.trans (congrArg _ h)
    · exact hstep.trans (congrArg _ h)
    · exact hstep.trans (congrArg _ h)
  case operation =>
    intro s hstart
    rw [step_of_start hstart, step_of_start (s := resetBlock s) hstart]
    exact congrArg withAfter (exec_setOut _ s Outputs.reset)

/-! ## Reading a port (10_state R20, 70_reset R170) -/

theorem readOf_readWhenValid (o : Outputs) {port : OutPort} {v : PortRead} (h : readOf v = port) :
    readOf (readWhenValid o port v) = port := by
  unfold readWhenValid
  split
  · exact h
  · rfl

theorem readOf_readPort (draw : Nat) (o : Outputs) (port : OutPort) : readOf (readPort draw o port) = port := by
  cases port with
  | valid => rfl
  | status | tcCount | intCount | tcTemp | intTemp | unitTag => exact readOf_readWhenValid o rfl

section
variable (draw : Nat) {o : Outputs} {port : OutPort}

/-- VALID can always be read, and every port while VALID is 1. -/
theorem readPort_ne_faulted (h : o.valid = true ∨ port = .valid) : readPort draw o port ≠ .faulted port := by
  rcases h with hvalid | rfl
  · cases port <;> simp [readPort, readWhenValid, hvalid]
  · simp [readPort]

theorem readPort_eq_faulted_iff : readPort draw o port = .faulted port ↔ o.valid = false ∧ port ≠ .valid := by
  constructor
  · intro h
    by_contra! hne
    refine readPort_ne_faulted draw ?_ h
    cases hvalid : o.valid with
    | true => exact .inl rfl
    | false => exact .inr (hne hvalid)
  · rintro ⟨hvalid, hport⟩
    exact readPort_of_not_valid draw hvalid hport

/-- A read that does not fault gives the value the port holds. -/
theorem readPort_of_portValue {held : PortRead} (h : o.valid = true ∨ port = .valid)
    (hheld : portValue o port = some held) : readPort draw o port = held := by
  cases port with
  | valid => exact Option.some.inj hheld
  | status | tcCount | intCount | tcTemp | intTemp | unitTag =>
    have hvalid : o.valid = true := h.resolve_right (by decide)
    obtain ⟨v, hv, rfl⟩ := Option.map_eq_some_iff.mp hheld
    simp [readPort, readWhenValid, hvalid, hv]

end

/-- Settles O49: the read is recorded and the host goes on; what it gives is `readPort_eq_faulted_iff` and
`readPort_of_portValue`. -/
theorem readingAnOutputPort : Obligations.ReadingAnOutputPort := by
  unfold Obligations.ReadingAnOutputPort
  intro s port rest hrest htodo
  refine ⟨readPort s.draws s.out port, readOf_readPort _ _ _, readPort_eq_faulted_iff _,
    fun held => readPort_of_portValue _, ?_⟩
  rw [step_of_atRest hrest htodo]
  rfl

/-! ## Runs -/

theorem run_succ {s t : State} (h : step s = .next t) (k : Nat) :
    Host.Core.run core (k + 1) s = Host.Core.run core k t := by
  have hstep : core.step s = .next t := h
  simp only [Host.Core.run, hstep]

theorem run_one {s t : State} (h : step s = .next t) : Host.Core.run core 1 s = .next t := run_succ h 0

/-- A run that gives a next state can be continued from there. -/
theorem run_add {s t : State} {j : Nat} (h : Host.Core.run core j s = .next t) (k : Nat) :
    Host.Core.run core (j + k) s = Host.Core.run core k t := by
  induction j generalizing s with
  | zero =>
    obtain rfl := Host.Outcome.next.inj h
    rw [Nat.zero_add]
  | succ j ih =>
    rw [Nat.add_right_comm]
    cases hstep : step s with
    | next u => exact (run_succ hstep _).trans (ih ((run_succ hstep j).symm.trans h))
    | fault f =>
      have hstop : core.step s = .fault f := hstep
      simp only [Host.Core.run, hstop] at h
      cases h
    | refused r =>
      have hstop : core.step s = .refused r := hstep
      simp only [Host.Core.run, hstop] at h
      cases h

/-! ## Bare operations (70_reset R172) -/

/-- The reserved words are the only ones that name no operation (30_encoding R55). -/
theorem decodeCmd_eq_reserved_iff : ∀ cmd : BitVec 4,
    (∃ wide, decodeCmd cmd = .reserved wide) ↔ cmd = 0b1110#4 ∨ cmd = 0b1111#4 := by
  decide

/-- Every instruction but a reserved word completes. -/
theorem exec_completes {i : Instr} (hi : ∀ wide, i ≠ .reserved wide) (s : State) : ∃ t, exec i s = .next t := by
  rw [exec_eq_deliver]
  cases i with
  | reserved wide => exact absurd rfl (hi wide)
  | _ => exact ⟨_, rfl⟩

/-- Settles O50: the host's step places the frame and raises START (`step_of_atRest`), and the next one runs the
operation (`step_of_exec`). -/
theorem bareOperationRuns : Obligations.BareOperationRuns := by
  unfold Obligations.BareOperationRuns
  rintro s u cmd bytes rest hrest htodo rfl
  have hplace := step_of_atRest hrest htodo
  refine ⟨run_one hplace, fun hnarrow hwide => ?_⟩
  have hnamed : ∀ wide, decodeCmd cmd ≠ .reserved wide := fun wide h =>
    ((decodeCmd_eq_reserved_iff cmd).mp ⟨wide, h⟩).elim hnarrow hwide
  obtain ⟨t, hexec⟩ := exec_completes hnamed _
  exact ⟨t, hexec, (run_succ hplace 1).trans (run_one (step_of_exec rfl hexec))⟩

end Sys2Proof.Machine
end

section
/-! SUPPORT. What an API operation's command delivers and what the host collects of it (43_block_operations R134 to
R137). -/

namespace Sys2Proof.Machine

/-! ## The outcome of an API operation's command -/

/-- What the command of an API operation computes from the words of FRAME. Tied to `exec` by `exec_apiCmd`. -/
def apiOutcome (cfg : Config) (w0 w1 : Word16) : ApiOp → Except FaultKind Result
  | .readThermocoupleRaw => (dec16 w0).map .raw
  | .readThermocouple u => (dec16 w0).map fun tc => .converted (toUnit cfg.numerics u (cvtcTc cfg.numerics tc))
  | .readAllRaw => (dec32 cfg.cflagSel w0 w1).map fun c => .rawPair c.1 c.2
  | .readAll u => (dec32 cfg.cflagSel w0 w1).map fun c =>
      .convertedPair (toUnit cfg.numerics u (cvtcTc cfg.numerics c.1))
        (toUnit cfg.numerics u (cvtcInt cfg.numerics c.2)) u

/-- The UNIT field of the command selects the conversion of the unit asked for (30_encoding R54, 41_unit_converter
R97). -/
theorem instrOutcome_apiCmd (cfg : Config) (w0 w1 : Word16) (op : ApiOp) :
    instrOutcome cfg w0 w1 (decodeCmd (apiCmd op)) = some (apiOutcome cfg w0 w1 op) := by
  cases op with
  | readThermocoupleRaw | readAllRaw => rfl
  | readThermocouple u | readAll u => cases u <;> rfl

theorem exec_apiCmd (op : ApiOp) (s : State) :
    exec (decodeCmd (apiCmd op)) s =
      .next (finish s (apiOutcome s.config (frameWord0 s) (frameWord1 s) op)) := by
  rw [exec_eq_deliver, instrOutcome_apiCmd]
  rfl

/-- The result types of the API operations (43_block_operations R134 to R137). -/
inductive ReadingOf : ApiOp → Result → Prop where
  | raw (tc : Count) : ReadingOf .readThermocoupleRaw (.raw tc)
  | converted (u : TempUnit) (tc : Temp) : ReadingOf (.readThermocouple u) (.converted tc)
  | rawPair (tc int : Count) : ReadingOf .readAllRaw (.rawPair tc int)
  | convertedPair (u : TempUnit) (tc int : Temp) : ReadingOf (.readAll u) (.convertedPair tc int u)

theorem readingOf_apiOutcome {cfg : Config} {w0 w1 : Word16} {op : ApiOp} {r : Result}
    (h : apiOutcome cfg w0 w1 op = .ok r) : ReadingOf op r := by
  cases op with
  | readThermocoupleRaw | readThermocouple u =>
    unfold apiOutcome at h
    cases hdec : dec16 w0 with
    | error k => rw [hdec] at h; cases h
    | ok tc => rw [hdec] at h; cases h; constructor
  | readAllRaw | readAll u =>
    unfold apiOutcome at h
    cases hdec : dec32 cfg.cflagSel w0 w1 with
    | error k => rw [hdec] at h; cases h
    | ok c => rw [hdec] at h; cases h; constructor

/-! ## What the host collects (43_block_operations R134 to R137) -/

/-- What a call returns for an outcome of its operation. -/
def apiAnswer : Except FaultKind Result → ApiResult
  | .error k => .device k
  | .ok r => .ok r

theorem expectedResult_eq (cfg : Config) (op : ApiOp) (b0 b1 b2 b3 : Byte) :
    expectedResult cfg op b0 b1 b2 b3 = apiAnswer (apiOutcome cfg (word b0 b1) (word b2 b3) op) := by
  cases op with
  | readThermocoupleRaw | readThermocouple u =>
    unfold expectedResult apiOutcome
    cases dec16 (word b0 b1) <;> rfl
  | readAllRaw | readAll u =>
    unfold expectedResult apiOutcome
    cases dec32 cfg.cflagSel (word b0 b1) (word b2 b3) <;> rfl

/-- The ports carry the reading that the host collects from them. -/
theorem collectReading_resultOutputs {op : ApiOp} {r : Result} (h : ReadingOf op r) (draw : Nat) :
    collectReading op draw (resultOutputs r) = r := by
  cases h <;> rfl

/-- After its operation a call collects the operation's outcome. -/
theorem resultOfStatus_finish {op : ApiOp} {s : State} {o : Except FaultKind Result}
    (h : ∀ r, o = .ok r → ReadingOf op r) (draw : Nat) :
    resultOfStatus op draw (finish s o).out (portStatus draw (finish s o).out) = .ok (apiAnswer o) := by
  cases o with
  | error k =>
    have hstatus : portStatus draw (finish s (.error k)).out = faultCode k := rfl
    rw [hstatus, resultOfStatus, statusOk, if_neg (faultCode_ne_zero k), faultOfCode_faultCode]
    rfl
  | ok r =>
    have hstatus : portStatus draw (finish s (.ok r)).out = statusOk := portStatus_some draw (resultOutputs_status r)
    rw [hstatus, resultOfStatus, if_pos rfl, finish_ok, setOut_out, collectReading_resultOutputs (h r rfl)]
    rfl

/-- After its operation a call finds on the ports what it collects (10_state R20, R25). -/
theorem carries_finish {op : ApiOp} {s : State} {o : Except FaultKind Result}
    (h : ∀ r, o = .ok r → ReadingOf op r) : carries op (finish s o).out = true := by
  cases o with
  | error k =>
    rw [finish_error, setOut_out]
    cases k <;> rfl
  | ok r =>
    rw [finish_ok, setOut_out]
    cases h r rfl <;> rfl

end Sys2Proof.Machine
end

section
/-! SUPPORT. A run through one API call (42_transaction_wrapper R111 to R118, 43_block_operations R134 to R140), from
rest to rest: the states along the way, and the steps between them. -/

namespace Sys2Proof.Machine

/-! ## The states of a call, its phase aside -/

/-- A call that began: its action is taken and the buffer holds no byte. -/
def calledState (s : State) (rest : List HostAction) : State := setFrame (setTodo s rest) []

/-- Chip-select was driven low. -/
def selectedState (s : State) (rest : List HostAction) : State :=
  setCsLine (addEvent (calledState s rest) (.setCs .low .ok)) (some .low)

/-- A frame was received. -/
def receivedState (s : State) (rest : List HostAction) (len : FrameLen) (b0 b1 b2 b3 : Byte) : State :=
  setFrame (addEvent (selectedState s rest) (.exchange len (.received b0 b1 b2 b3)))
    (loadFrame (takeBytes len b0 b1 b2 b3))

/-- Chip-select was driven high: the transaction returned the frame. -/
def returnedState (s : State) (rest : List HostAction) (len : FrameLen) (b0 b1 b2 b3 : Byte) : State :=
  setCsLine (addEvent (receivedState s rest len b0 b1 b2 b3) (.setCs .high .ok)) (some .high)

/-! The states' fields, as far as the run through a call needs them. -/

section
variable (s : State) (rest : List HostAction) (len : FrameLen) (b0 b1 b2 b3 : Byte)

@[simp] theorem calledState_start : (calledState s rest).start = s.start := rfl
@[simp] theorem calledState_resets : (calledState s rest).env.resets = s.env.resets := rfl

@[simp] theorem selectedState_start : (selectedState s rest).start = s.start := by simp [selectedState]
@[simp] theorem selectedState_resets : (selectedState s rest).env.resets = s.env.resets := by simp [selectedState]

@[simp] theorem receivedState_start : (receivedState s rest len b0 b1 b2 b3).start = s.start := by
  simp [receivedState]
@[simp] theorem receivedState_resets : (receivedState s rest len b0 b1 b2 b3).env.resets = s.env.resets := by
  simp [receivedState]

@[simp] theorem returnedState_config : (returnedState s rest len b0 b1 b2 b3).config = s.config := by
  simp [returnedState, receivedState, selectedState, calledState]
@[simp] theorem returnedState_start : (returnedState s rest len b0 b1 b2 b3).start = s.start := by
  simp [returnedState]
@[simp] theorem returnedState_frame :
    (returnedState s rest len b0 b1 b2 b3).frame = loadFrame (takeBytes len b0 b1 b2 b3) := by
  simp [returnedState, receivedState]
@[simp] theorem returnedState_resets : (returnedState s rest len b0 b1 b2 b3).env.resets = s.env.resets := by
  simp [returnedState]
@[simp] theorem returnedState_cs : (returnedState s rest len b0 b1 b2 b3).env.cs = some .high := by
  simp [returnedState]
@[simp] theorem returnedState_todo : (returnedState s rest len b0 b1 b2 b3).env.todo = rest := by
  simp [returnedState, receivedState, selectedState, calledState]
@[simp] theorem returnedState_reads : (returnedState s rest len b0 b1 b2 b3).env.reads = s.env.reads := by
  simp [returnedState, receivedState, selectedState, calledState]
@[simp] theorem returnedState_results : (returnedState s rest len b0 b1 b2 b3).env.results = s.env.results := by
  simp [returnedState, receivedState, selectedState, calledState]
@[simp] theorem returnedState_trace : (returnedState s rest len b0 b1 b2 b3).env.trace = s.env.trace ++
    [.setCs .low .ok, .exchange len (.received b0 b1 b2 b3), .setCs .high .ok] := by
  simp [returnedState, receivedState, selectedState, calledState]

end

/-! ## The steps of a transaction (42_transaction_wrapper R111) -/

/-- However the exchange ends, it moves the host to another phase. -/
theorem stepExchange_setPhase (u : State) (c : Call) (p : Phase) : stepExchange c (setPhase u p) = stepExchange c u := by
  match h : exchangeAnswer c.exchange with
  | some (.received b0 b1 b2 b3) => rw [stepExchange_of_received _ h, stepExchange_of_received _ h]; rfl
  | some (.error e) => rw [stepExchange_of_error _ h, stepExchange_of_error _ h]; rfl
  | none => rw [stepExchange_of_cancelled _ h, stepExchange_of_cancelled _ h]; rfl

section
variable {u : State} {c : Call} (hstart : u.start = false) (hresets : u.env.resets = [])
include hstart hresets

theorem step_setPhase (p : Phase) : step (setPhase u p) = stepHost (setPhase u p) := step_of_no_resets hstart hresets

theorem step_drivingLow_of_ok (h : c.driveLow = .ok) :
    step (setPhase u (.drivingLow c)) =
      .next (setPhase (setCsLine (addEvent u (.setCs .low .ok)) (some .low))
        (.exchanging c (exchangeWait c.exchange))) :=
  (step_setPhase hstart hresets _).trans (congrArg Host.Outcome.next (stepDriveLow_of_ok _ h))

theorem step_drivingLow_of_error {e : PinError} (h : c.driveLow = .error e) :
    step (setPhase u (.drivingLow c)) =
      .next (failCall (setCsLine (addEvent u (.setCs .low (.error e))) none) (.pin e)) :=
  (step_setPhase hstart hresets _).trans (congrArg Host.Outcome.next (stepDriveLow_of_error _ h))

theorem step_drivingHigh_of_ok (h : c.driveHigh = .ok) :
    step (setPhase u (.drivingHigh c)) =
      .next (setPhase (setCsLine (addEvent u (.setCs .high .ok)) (some .high)) (.starting c.op)) :=
  (step_setPhase hstart hresets _).trans (congrArg Host.Outcome.next (stepDriveHigh_of_ok _ h))

theorem step_drivingHigh_of_error {e : PinError} (h : c.driveHigh = .error e) :
    step (setPhase u (.drivingHigh c)) =
      .next (failCall (setCsLine (addEvent u (.setCs .high (.error e))) none) (.pin e)) :=
  (step_setPhase hstart hresets _).trans (congrArg Host.Outcome.next (stepDriveHigh_of_error _ h))

/-- The exchange lasts its wait and ends (42_transaction_wrapper R117). -/
theorem run_exchanging (left : Nat) :
    Host.Core.run core (left + 1) (setPhase u (.exchanging c left)) = .next (stepExchange c u) := by
  induction left with
  | zero =>
    refine run_one ((step_setPhase hstart hresets _).trans ?_)
    exact congrArg Host.Outcome.next (stepExchange_setPhase u c _)
  | succ left ih => exact (run_succ (step_setPhase hstart hresets _) _).trans ih

end

/-! ## From rest through the transaction -/

section
variable {s : State} {c : Call} {rest : List HostAction} (hrest : atRest s) (htodo : s.env.todo = .call c :: rest)
include hrest htodo

theorem step_call : step s = .next (setPhase (calledState s rest) (.drivingLow c)) := step_of_atRest hrest htodo

theorem run_call_of_lowError {e : PinError} (hlow : c.driveLow = .error e) :
    Host.Core.run core 2 s =
      .next (failCall (setCsLine (addEvent (calledState s rest) (.setCs .low (.error e))) none) (.pin e)) := by
  have ⟨hstart, _, hresets⟩ := hrest
  exact (run_succ (step_call hrest htodo) 1).trans
    (run_one (step_drivingLow_of_error (by simpa using hstart) (by simpa using hresets) hlow))

theorem run_call_to_exchange_end (hlow : c.driveLow = .ok) :
    Host.Core.run core (exchangeWait c.exchange + 3) s = .next (stepExchange c (selectedState s rest)) := by
  have ⟨hstart, _, hresets⟩ := hrest
  exact (run_succ (step_call hrest htodo) _).trans
    ((run_succ (step_drivingLow_of_ok (by simpa using hstart) (by simpa using hresets) hlow) _).trans
      (run_exchanging (u := selectedState s rest) (by simpa using hstart) (by simpa using hresets) _))

section
variable (hlow : c.driveLow = .ok)
include hlow

theorem run_call_of_exchangeError {e : TransportError} (hanswer : exchangeAnswer c.exchange = some (.error e)) :
    Host.Core.run core (exchangeWait c.exchange + 3) s =
      .next (failCall (addEvent (selectedState s rest) (.exchange (apiLen c.op) (.error e))) (.transport e)) := by
  rw [run_call_to_exchange_end hrest htodo hlow, stepExchange_of_error _ hanswer]

theorem run_call_of_cancelled (hanswer : exchangeAnswer c.exchange = none) :
    Host.Core.run core (exchangeWait c.exchange + 3) s =
      .next (endCall (setCsLine (addEvent (selectedState s rest) (.exchangeCancelled (apiLen c.op))) none)) := by
  rw [run_call_to_exchange_end hrest htodo hlow, stepExchange_of_cancelled _ hanswer]

variable {b0 b1 b2 b3 : Byte} (hanswer : exchangeAnswer c.exchange = some (.received b0 b1 b2 b3))
include hanswer

theorem run_call_to_received :
    Host.Core.run core (exchangeWait c.exchange + 3) s =
      .next (setPhase (receivedState s rest (apiLen c.op) b0 b1 b2 b3) (.drivingHigh c)) := by
  rw [run_call_to_exchange_end hrest htodo hlow, stepExchange_of_received _ hanswer]
  rfl

theorem run_call_of_highError {e : PinError} (hhigh : c.driveHigh = .error e) :
    Host.Core.run core (exchangeWait c.exchange + 4) s =
      .next (failCall (setCsLine (addEvent (receivedState s rest (apiLen c.op) b0 b1 b2 b3)
        (.setCs .high (.error e))) none) (.pin e)) := by
  have hreceived := run_call_to_received hrest htodo hlow hanswer
  have ⟨hstart, _, hresets⟩ := hrest
  exact (run_add hreceived 1).trans (run_one
    (step_drivingHigh_of_error (by simpa using hstart) (by simpa using hresets) hhigh))

theorem run_call_to_returned (hhigh : c.driveHigh = .ok) :
    Host.Core.run core (exchangeWait c.exchange + 4) s =
      .next (setPhase (returnedState s rest (apiLen c.op) b0 b1 b2 b3) (.starting c.op)) := by
  have hreceived := run_call_to_received hrest htodo hlow hanswer
  have ⟨hstart, _, hresets⟩ := hrest
  exact (run_add hreceived 1).trans (run_one
    (step_drivingHigh_of_ok (by simpa using hstart) (by simpa using hresets) hhigh))

end

end

/-! ## The operation of a call and its result (43_block_operations R134 to R137) -/

/-- Of a frame as long as the operation's, the outcome depends on the bytes received alone. -/
theorem apiOutcome_of_frame {v : State} {op : ApiOp} {b0 b1 b2 b3 : Byte} (cfg : Config)
    (h : v.frame = loadFrame (takeBytes (apiLen op) b0 b1 b2 b3)) :
    apiOutcome cfg (frameWord0 v) (frameWord1 v) op = apiOutcome cfg (word b0 b1) (word b2 b3) op := by
  cases op with
  | readThermocoupleRaw | readThermocouple u =>
    have h0 : frameWord0 v = word b0 b1 := frameWord0_of_bytes (h ▸ rfl) (h ▸ rfl)
    rw [h0]
    rfl
  | readAllRaw | readAll u =>
    have h0 : frameWord0 v = word b0 b1 := frameWord0_of_bytes (h ▸ rfl) (h ▸ rfl)
    have h1 : frameWord1 v = word b2 b3 := frameWord1_of_bytes (h ▸ rfl) (h ▸ rfl)
    rw [h0, h1]

/-- While VALID is 1 the host collects what STATUS says. -/
theorem step_collecting {v : State} {op : ApiOp} {r : ApiResult} (hstart : v.start = false)
    (hresets : v.env.resets = []) (hphase : v.env.phase = .collecting op) (hvalid : v.out.valid = true)
    (hr : resultOfStatus op v.draws v.out (portStatus v.draws v.out) = .ok r) :
    step v = .next (addResult (endCall (nextDraw v)) r) := by
  rw [step_of_no_resets hstart hresets]
  simp only [stepHost, hphase, stepCollect, hvalid, if_true, hr]

/-- From the raising of START a call runs to its end in three steps, with the outcome of its operation. -/
theorem run_starting_eq {u : State} {op : ApiOp} {o : Except FaultKind Result} (hstart : u.start = false)
    (hresets : u.env.resets = []) (ho : apiOutcome u.config (frameWord0 u) (frameWord1 u) op = o) :
    Host.Core.run core 3 (setPhase u (.starting op)) =
      .next (addResult (endCall (nextDraw (afterOperation (finish (stepStart op u) o)))) (apiAnswer o)) := by
  have hraise : step (setPhase u (.starting op)) = .next (stepStart op u) := step_setPhase hstart hresets _
  have hoperate : step (stepStart op u) = .next (afterOperation (finish (stepStart op u) o)) := by
    rw [step_of_start (s := stepStart op u) rfl, ← withAfter_next, ← ho]
    exact congrArg withAfter (exec_apiCmd op (stepStart op u))
  have hreading : ∀ r, o = .ok r → ReadingOf op r := fun r hr => readingOf_apiOutcome (ho.trans hr)
  have hcollect : step (afterOperation (finish (stepStart op u) o)) =
      .next (addResult (endCall (nextDraw (afterOperation (finish (stepStart op u) o)))) (apiAnswer o)) := by
    refine step_collecting (op := op) rfl ?_ ?_ ?_ (resultOfStatus_finish hreading _)
    · rw [finish_eq_setOut]
      exact hresets
    · rw [finish_eq_setOut]
      rfl
    · cases o with
      | error k => rfl
      | ok r => cases r <;> rfl
  exact (run_succ hraise 2).trans ((run_succ hoperate 1).trans (run_one hcollect))

/-- From the raising of START a call runs to rest and returns the outcome of its operation; the environment is
otherwise as it was. -/
theorem run_starting {u : State} {op : ApiOp} {o : Except FaultKind Result} (hstart : u.start = false)
    (hresets : u.env.resets = []) (ho : apiOutcome u.config (frameWord0 u) (frameWord1 u) op = o) :
    ∃ t, Host.Core.run core 3 (setPhase u (.starting op)) = .next t ∧ atRest t ∧ t.env.todo = u.env.todo ∧
      t.env.cs = u.env.cs ∧ t.config = u.config ∧ t.env.reads = u.env.reads ∧ t.env.trace = u.env.trace ∧
      t.env.results = u.env.results ++ [apiAnswer o] := by
  refine ⟨_, run_starting_eq hstart hresets ho, ?_⟩
  simp [atRest, finish_eq_setOut, hresets]

/-! ## Where a transaction ends, whatever its execution model (43_block_operations R140) -/

/-- The end of the transaction of a call that found the state `s`, as 42_transaction_wrapper R111 and R112 give it from
the answers of the collaborators. Tied to the model by `run_transaction`. -/
def transactionEnd (s : State) (rest : List HostAction) (op : ApiOp) (low : PinAnswer) (answer : ExchangeAnswer)
    (high : PinAnswer) : State :=
  match low, answer, high with
  | .error e, _, _ => failCall (setCsLine (addEvent (calledState s rest) (.setCs .low (.error e))) none) (.pin e)
  | .ok, .error e, _ => failCall (addEvent (selectedState s rest) (.exchange (apiLen op) (.error e))) (.transport e)
  | .ok, .received b0 b1 b2 b3, .error e =>
    failCall (setCsLine (addEvent (receivedState s rest (apiLen op) b0 b1 b2 b3) (.setCs .high (.error e))) none)
      (.pin e)
  | .ok, .received b0 b1 b2 b3, .ok => setPhase (returnedState s rest (apiLen op) b0 b1 b2 b3) (.starting op)

/-- A transaction that is not cancelled runs to its end. -/
theorem run_transaction {s : State} {c : Call} {rest : List HostAction} {answer : ExchangeAnswer} (hrest : atRest s)
    (htodo : s.env.todo = .call c :: rest) (hanswer : exchangeAnswer c.exchange = some answer) :
    ∃ k, Host.Core.run core k s = .next (transactionEnd s rest c.op c.driveLow answer c.driveHigh) := by
  cases hlow : c.driveLow with
  | error e => exact ⟨_, run_call_of_lowError hrest htodo hlow⟩
  | ok =>
    cases answer with
    | error e => exact ⟨_, run_call_of_exchangeError hrest htodo hlow hanswer⟩
    | received b0 b1 b2 b3 =>
      cases hhigh : c.driveHigh with
      | error e => exact ⟨_, run_call_of_highError hrest htodo hlow hanswer hhigh⟩
      | ok => exact ⟨_, run_call_to_returned hrest htodo hlow hanswer hhigh⟩

/-- From the end of its transaction a call runs to rest and returns one result. -/
theorem run_from_transactionEnd {s : State} (hrest : atRest s) (rest : List HostAction) (op : ApiOp)
    (low : PinAnswer) (answer : ExchangeAnswer) (high : PinAnswer) :
    ∃ k t, Host.Core.run core k (transactionEnd s rest op low answer high) = .next t ∧ atRest t ∧
      t.env.todo = rest ∧ t.env.results.length = s.env.results.length + 1 := by
  have ⟨hstart, _, hresets⟩ := hrest
  match low, answer, high with
  | .error e, _, _ =>
    exact ⟨0, _, rfl, by simp [atRest, transactionEnd, calledState, hstart, hresets]⟩
  | .ok, .error e, _ =>
    exact ⟨0, _, rfl, by simp [atRest, transactionEnd, selectedState, calledState, hstart, hresets]⟩
  | .ok, .received b0 b1 b2 b3, .error e =>
    exact ⟨0, _, rfl, by simp [atRest, transactionEnd, receivedState, selectedState, calledState, hstart, hresets]⟩
  | .ok, .received b0 b1 b2 b3, .ok =>
    obtain ⟨t, hrun, ht, htodo, -, -, -, -, hresults⟩ :=
      run_starting (u := returnedState s rest (apiLen op) b0 b1 b2 b3) (op := op) (by simpa using hstart)
        (by simpa using hresets) rfl
    exact ⟨3, t, hrun, ht, by simpa using htodo, by simp [hresults]⟩

/-! ## The obligations -/

/-- Settles O52: the low transition fails in the second step (`run_call_of_lowError`). -/
theorem callFailsDrivingLow : Obligations.CallFailsDrivingLow := by
  unfold Obligations.CallFailsDrivingLow
  intro s c rest e hrest htodo hlow
  refine ⟨_, run_call_of_lowError hrest htodo hlow, ?_⟩
  obtain ⟨hstart, -, hresets⟩ := hrest
  simp [atRest, calledState, hstart, hresets]

/-- Settles O53: the exchange ends in an error (`run_call_of_exchangeError`), with the line as it was driven. -/
theorem callFailsInExchange : Obligations.CallFailsInExchange := by
  unfold Obligations.CallFailsInExchange
  intro s c rest e hrest htodo hlow hanswer
  refine ⟨_, run_call_of_exchangeError hrest htodo hlow hanswer, ?_⟩
  obtain ⟨hstart, -, hresets⟩ := hrest
  simp [atRest, selectedState, calledState, hstart, hresets]

/-- Settles O54: the frame was received and the high transition fails (`run_call_of_highError`). -/
theorem callFailsDrivingHigh : Obligations.CallFailsDrivingHigh := by
  unfold Obligations.CallFailsDrivingHigh
  intro s c rest b0 b1 b2 b3 e hrest htodo hlow hanswer hhigh
  refine ⟨_, run_call_of_highError hrest htodo hlow hanswer hhigh, ?_⟩
  obtain ⟨hstart, -, hresets⟩ := hrest
  simp [atRest, receivedState, selectedState, calledState, hstart, hresets]

/-- Settles O55: the exchange is cancelled (`run_call_of_cancelled`), and the call ends there. -/
theorem cancelledCall : Obligations.CancelledCall := by
  unfold Obligations.CancelledCall
  intro s c rest hrest htodo hlow hanswer
  refine ⟨_, run_call_of_cancelled hrest htodo hlow hanswer, ?_⟩
  obtain ⟨hstart, -, hresets⟩ := hrest
  simp [atRest, selectedState, calledState, hstart, hresets]

/-- Settles O51: the transaction returns the frame (`run_call_to_returned`), on which the operation runs and its outcome
is collected (`run_starting`). -/
theorem successfulCall : Obligations.SuccessfulCall := by
  unfold Obligations.SuccessfulCall
  intro s c rest b0 b1 b2 b3 hrest htodo hlow hhigh hanswer
  have ⟨hstart, _, hresets⟩ := hrest
  have hreturned := run_call_to_returned hrest htodo hlow hanswer hhigh
  have houtcome := apiOutcome_of_frame (returnedState s rest (apiLen c.op) b0 b1 b2 b3).config
    (returnedState_frame s rest (apiLen c.op) b0 b1 b2 b3)
  obtain ⟨t, hrun, hend⟩ := run_starting (by simpa using hstart) (by simpa using hresets) houtcome
  refine ⟨t, (run_add hreturned 3).trans hrun, ?_⟩
  rw [expectedResult_eq]
  simpa using hend

/-- Settles O56: the answers alone decide where the transaction ends (`run_transaction`), and from there both calls run
the same way (`run_from_transactionEnd`). -/
theorem oneContractForBothModels : Obligations.OneContractForBothModels := by
  unfold Obligations.OneContractForBothModels
  rintro s s' c c' rest w w' answer hrest hblocking rfl htodo rfl
  have hanswer : exchangeAnswer c.exchange = some answer := by rw [hblocking]; rfl
  obtain ⟨k, hk⟩ := run_transaction hrest htodo hanswer
  obtain ⟨k', hk'⟩ := run_transaction (c := { c with exchange := .suspending w' answer })
    (s := { s with env := { s.env with todo := .call { c with exchange := .suspending w' answer } :: rest } })
    hrest rfl rfl
  obtain ⟨j, t, hj, hresult⟩ := run_from_transactionEnd hrest rest c.op c.driveLow answer c.driveHigh
  exact ⟨k + j, k' + j, t, (run_add hk j).trans hj, (run_add hk' j).trans hj, hresult⟩

end Sys2Proof.Machine
end

section
/-! SUPPORT. The invariant of a run (10_state sections 2 and 4, 20_memory section 1, 42_transaction_wrapper section 2):
each step keeps it, and under it a step stops for a reserved command only. -/

namespace Sys2Proof.Machine

/-! ## The parts of the invariant -/

/-- The invariant does not speak of the resets to come. -/
theorem Inv.setResets {s : State} (h : Inv s) (r : List Nat) : Inv (setResets s r) := ⟨h.memory, h.outputs, h.phase⟩

/-! What the invariant says of each phase (42_transaction_wrapper R111). -/

section
variable {s : State} {c : Call} {left : Nat} {op : ApiOp}

theorem phaseOk_of_idle (h : s.env.phase = .idle) : phaseOk s = true := by
  simp [phaseOk, h]

theorem phaseOk_drivingLow_iff (h : s.env.phase = .drivingLow c) :
    phaseOk s = true ↔ s.start = false ∧ s.frame = [] := by
  simp [phaseOk, h]

theorem phaseOk_exchanging_iff (h : s.env.phase = .exchanging c left) :
    phaseOk s = true ↔ s.start = false ∧ s.frame = [] ∧ s.env.cs = some .low := by
  simp [phaseOk, h, and_assoc]

theorem phaseOk_drivingHigh_iff (h : s.env.phase = .drivingHigh c) :
    phaseOk s = true ↔ s.start = false ∧ frameHeld (apiLen c.op) s.frame = true ∧ s.env.cs = some .low := by
  simp [phaseOk, h, and_assoc]

theorem phaseOk_starting_iff (h : s.env.phase = .starting op) :
    phaseOk s = true ↔ s.start = false ∧ frameHeld (apiLen op) s.frame = true ∧ s.env.cs = some .high := by
  simp [phaseOk, h, and_assoc]

theorem phaseOk_collecting_iff (h : s.env.phase = .collecting op) :
    phaseOk s = true ↔ frameHeld (apiLen op) s.frame = true ∧ s.env.cs = some .high ∧
      (s.start = true → s.cmd = apiCmd op) ∧
      (s.start = false → s.out.valid = true → carries op s.out = true) := by
  cases hstart : s.start <;> cases hvalid : s.out.valid <;> simp [phaseOk, h, hstart, hvalid, and_assoc]

/-- A call in progress has not raised START until it waits for its result. -/
theorem start_eq_false_of_phaseOk (hok : phaseOk s = true) (hidle : s.env.phase ≠ .idle)
    (hcollect : ∀ op, s.env.phase ≠ .collecting op) : s.start = false := by
  cases hphase : s.env.phase with
  | idle => exact absurd hphase hidle
  | drivingLow c => exact ((phaseOk_drivingLow_iff hphase).mp hok).1
  | exchanging c left => exact ((phaseOk_exchanging_iff hphase).mp hok).1
  | drivingHigh c => exact ((phaseOk_drivingHigh_iff hphase).mp hok).1
  | starting op => exact ((phaseOk_starting_iff hphase).mp hok).1
  | collecting op => exact absurd hphase (hcollect op)

/-- Before the result is awaited the invariant does not speak of the output ports. -/
theorem phaseOk_setOut (hcollect : ∀ op, s.env.phase ≠ .collecting op) (o : Outputs) :
    phaseOk (setOut s o) = phaseOk s := by
  unfold phaseOk
  rw [setOut_env]
  cases hphase : s.env.phase with
  | collecting op => exact absurd hphase (hcollect op)
  | _ => rfl

end

theorem frameHeld_loadFrame_takeBytes (len : FrameLen) (b0 b1 b2 b3 : Byte) :
    frameHeld len (loadFrame (takeBytes len b0 b1 b2 b3)) = true := by
  cases len <;> rfl

/-- With no call in progress the invariant speaks of the buffer and the ports alone. -/
theorem inv_of_idle {t : State} (hmemory : Memory.wf t.frame = true) (houtputs : outputsOk t.out = true)
    (hphase : t.env.phase = .idle) : Inv t := ⟨hmemory, houtputs, phaseOk_of_idle hphase⟩

/-! ## Every move keeps the invariant -/

section
variable {s t : State} (hinv : Inv s)
include hinv

theorem inv_of_stepDriveLow {c : Call} (hphase : s.env.phase = .drivingLow c) : Inv (stepDriveLow c s) := by
  obtain ⟨hmemory, houtputs, hok⟩ := hinv
  obtain ⟨hstart, hframe⟩ := (phaseOk_drivingLow_iff hphase).mp hok
  cases h : c.driveLow with
  | ok =>
    rw [stepDriveLow_of_ok s h]
    exact ⟨hmemory, houtputs, (phaseOk_exchanging_iff rfl).mpr ⟨hstart, hframe, rfl⟩⟩
  | error e =>
    rw [stepDriveLow_of_error s h]
    exact inv_of_idle rfl houtputs rfl

theorem inv_of_exchanging {c : Call} {left : Nat} (hphase : s.env.phase = .exchanging c (left + 1)) :
    Inv (setPhase s (.exchanging c left)) := by
  obtain ⟨hmemory, houtputs, hok⟩ := hinv
  exact ⟨hmemory, houtputs, (phaseOk_exchanging_iff rfl).mpr ((phaseOk_exchanging_iff hphase).mp hok)⟩

theorem inv_of_stepExchange {c : Call} (hphase : s.env.phase = .exchanging c 0) : Inv (stepExchange c s) := by
  obtain ⟨hmemory, houtputs, hok⟩ := hinv
  obtain ⟨hstart, -, hcs⟩ := (phaseOk_exchanging_iff hphase).mp hok
  match h : exchangeAnswer c.exchange with
  | some (.received b0 b1 b2 b3) =>
    rw [stepExchange_of_received s h]
    exact ⟨loadFrame_wf _, houtputs,
      (phaseOk_drivingHigh_iff rfl).mpr ⟨hstart, frameHeld_loadFrame_takeBytes _ b0 b1 b2 b3, hcs⟩⟩
  | some (.error e) =>
    rw [stepExchange_of_error s h]
    exact inv_of_idle rfl houtputs rfl
  | none =>
    rw [stepExchange_of_cancelled s h]
    exact inv_of_idle rfl houtputs rfl

theorem inv_of_stepDriveHigh {c : Call} (hphase : s.env.phase = .drivingHigh c) : Inv (stepDriveHigh c s) := by
  obtain ⟨hmemory, houtputs, hok⟩ := hinv
  obtain ⟨hstart, hframe, -⟩ := (phaseOk_drivingHigh_iff hphase).mp hok
  cases h : c.driveHigh with
  | ok =>
    rw [stepDriveHigh_of_ok s h]
    exact ⟨hmemory, houtputs, (phaseOk_starting_iff rfl).mpr ⟨hstart, hframe, rfl⟩⟩
  | error e =>
    rw [stepDriveHigh_of_error s h]
    exact inv_of_idle rfl houtputs rfl

theorem inv_of_stepStart {op : ApiOp} (hphase : s.env.phase = .starting op) : Inv (stepStart op s) := by
  obtain ⟨hmemory, houtputs, hok⟩ := hinv
  obtain ⟨-, hframe, hcs⟩ := (phaseOk_starting_iff hphase).mp hok
  exact ⟨hmemory, houtputs, (phaseOk_collecting_iff rfl).mpr ⟨hframe, hcs, fun _ => rfl, fun h => by cases h⟩⟩

theorem inv_of_stepAction {a : HostAction} {rest : List HostAction} (hstart : s.start = false)
    (hphase : s.env.phase = .idle) (h : stepAction a (setTodo s rest) = .next t) : Inv t := by
  obtain ⟨hmemory, houtputs, -⟩ := hinv
  cases a with
  | call c =>
    obtain rfl := Host.Outcome.next.inj h
    exact ⟨rfl, houtputs, (phaseOk_drivingLow_iff rfl).mpr ⟨hstart, rfl⟩⟩
  | operate cmd bytes =>
    obtain rfl := Host.Outcome.next.inj h
    exact inv_of_idle (loadFrame_wf bytes) houtputs hphase
  | read port =>
    obtain rfl := Host.Outcome.next.inj h
    exact inv_of_idle hmemory houtputs hphase
  | reset =>
    obtain rfl := Host.Outcome.next.inj h
    exact inv_of_idle hmemory rfl hphase

theorem inv_of_stepHost (hstart : s.start = false) (h : stepHost s = .next t) : Inv t := by
  obtain ⟨c, hphase, rfl⟩ | ⟨c, left, hphase, rfl⟩ | ⟨c, hphase, rfl⟩ | ⟨c, hphase, rfl⟩ | ⟨op, hphase, rfl⟩ |
    ⟨op, r, -, -, -, rfl⟩ | ⟨op, -, -, rfl⟩ | ⟨-, -, rfl⟩ | ⟨a, rest, hphase, -, haction⟩ := stepHost_cases h
  · exact inv_of_stepDriveLow hinv hphase
  · exact inv_of_exchanging hinv hphase
  · exact inv_of_stepExchange hinv hphase
  · exact inv_of_stepDriveHigh hinv hphase
  · exact inv_of_stepStart hinv hphase
  · exact inv_of_idle rfl hinv.outputs rfl
  · exact inv_of_idle rfl hinv.outputs rfl
  · exact hinv
  · exact inv_of_stepAction hinv hstart hphase haction

/-- A reset of the block clears what a call may be about to collect, which the invariant allows (70_reset R170). -/
theorem inv_of_reset (hstart : s.start = false) : Inv (resetBlock s) := by
  obtain ⟨hmemory, houtputs, hok⟩ := hinv
  refine ⟨hmemory, rfl, ?_⟩
  by_cases hcollect : ∃ op, s.env.phase = .collecting op
  · obtain ⟨op, hphase⟩ := hcollect
    obtain ⟨hheld, hcs, -, -⟩ := (phaseOk_collecting_iff hphase).mp hok
    refine (phaseOk_collecting_iff (s := resetBlock s) hphase).mpr ⟨hheld, hcs, fun h => ?_, fun _ h => ?_⟩
    · exact absurd (hstart.symm.trans h) (by decide)
    · cases h
  · rw [resetBlock_eq, phaseOk_setOut (not_exists.mp hcollect)]
    exact hok

/-- The operation of a call leaves what the call collects on the ports (43_block_operations R134 to R137); START is up
with no other call in progress. -/
theorem inv_of_operation (hstart : s.start = true) (h : exec (decodeCmd s.cmd) s = .next t) :
    Inv (afterOperation t) := by
  have houtputs : outputsOk t.out = true := (portsAfterAnOperation _ s t h).2
  obtain ⟨hmemory, -, hok⟩ := hinv
  obtain ⟨o, ho, rfl⟩ := exec_eq_next h
  rw [finish_eq_setOut] at houtputs ⊢
  refine ⟨hmemory, houtputs, ?_⟩
  by_cases hidle : s.env.phase = .idle
  · exact phaseOk_of_idle hidle
  by_cases hcollect : ∃ op, s.env.phase = .collecting op
  · obtain ⟨op, hphase⟩ := hcollect
    obtain ⟨hheld, hcs, hcmd, -⟩ := (phaseOk_collecting_iff hphase).mp hok
    rw [hcmd hstart, instrOutcome_apiCmd] at ho
    have hcarries : carries op (finish s o).out = true :=
      carries_finish fun r hr => readingOf_apiOutcome ((Option.some.inj ho).trans hr)
    rw [finish_eq_setOut] at hcarries
    exact (phaseOk_collecting_iff (by exact hphase)).mpr ⟨hheld, hcs, (fun h => by cases h), fun _ _ => hcarries⟩
  · rw [start_eq_false_of_phaseOk hok hidle (not_exists.mp hcollect)] at hstart
    cases hstart

end

/-! ## When a step stops -/

theorem exists_faultOfCode : ∀ code : BitVec 3, code ≠ statusOk → code.toNat ≤ 4 →
    (faultOfCode code).isSome = true := by
  decide

/-- Under the invariant STATUS is no code that the block never produces, so the host can collect it (30_encoding
R56). -/
theorem exists_resultOfStatus {o : Outputs} (h : outputsOk o = true) (hvalid : o.valid = true) (op : ApiOp)
    (draw : Nat) : ∃ r, resultOfStatus op draw o (portStatus draw o) = .ok r := by
  cases hstatus : o.status with
  | none => simp [outputsOk, hvalid, hstatus] at h
  | some code =>
    rw [portStatus_some draw hstatus, resultOfStatus]
    by_cases hcode : code = statusOk
    · exact ⟨_, if_pos hcode⟩
    · have hzero : code ≠ 0#3 := hcode
      obtain ⟨hle, -⟩ : code.toNat ≤ 4 ∧ noReading o = true := by
        simpa [outputsOk, hvalid, hstatus, hzero] using h
      obtain ⟨k, hk⟩ := Option.isSome_iff_exists.mp (exists_faultOfCode code hcode hle)
      rw [if_neg hcode, hk]
      exact ⟨_, rfl⟩

theorem exists_stepHost {s : State} (h : outputsOk s.out = true) : ∃ t, stepHost s = .next t := by
  cases hphase : s.env.phase with
  | idle =>
    cases htodo : s.env.todo with
    | nil => exact ⟨s, by simp only [stepHost, hphase, htodo]⟩
    | cons a rest =>
      simp only [stepHost, hphase, htodo]
      cases a <;> exact ⟨_, rfl⟩
  | drivingLow c | drivingHigh c | starting op =>
    simp only [stepHost, hphase]
    exact ⟨_, rfl⟩
  | exchanging c left =>
    simp only [stepHost, hphase]
    cases left <;> exact ⟨_, rfl⟩
  | collecting op =>
    simp only [stepHost, hphase, stepCollect]
    cases hvalid : s.out.valid with
    | false => exact ⟨_, rfl⟩
    | true =>
      obtain ⟨r, hr⟩ := exists_resultOfStatus h hvalid op s.draws
      rw [hr]
      exact ⟨_, rfl⟩

/-- With START down a step of a state with legal ports goes on. -/
theorem exists_step_of_not_start {s : State} (hstart : s.start = false) (h : outputsOk s.out = true) :
    ∃ t, step s = .next t := by
  by_cases hdue : ∃ rest, s.env.resets = 0 :: rest
  · obtain ⟨rest, hdue⟩ := hdue
    exact ⟨_, step_of_reset_due hstart hdue⟩
  · rw [step_of_host hstart (not_exists.mp hdue)]
    exact exists_stepHost h

/-- Under the invariant a step goes on, or is refused for a reserved word (30_encoding R55). -/
theorem step_of_inv {s : State} (hinv : Inv s) :
    (s.start = true ∧ (s.cmd = 0b1110#4 ∨ s.cmd = 0b1111#4) ∧ step s = .refused .reservedCommand) ∨
    (¬ (s.start = true ∧ (s.cmd = 0b1110#4 ∨ s.cmd = 0b1111#4)) ∧ ∃ t, step s = .next t) := by
  cases hstart : s.start with
  | false => exact .inr ⟨fun h => absurd h.1 (by decide), exists_step_of_not_start hstart hinv.outputs⟩
  | true =>
    by_cases hreserved : s.cmd = 0b1110#4 ∨ s.cmd = 0b1111#4
    · obtain ⟨wide, hwide⟩ := (decodeCmd_eq_reserved_iff s.cmd).mpr hreserved
      exact .inl ⟨rfl, hreserved, step_of_reserved hstart hwide⟩
    · obtain ⟨t, hexec⟩ :=
        exec_completes (fun wide h => hreserved ((decodeCmd_eq_reserved_iff s.cmd).mp ⟨wide, h⟩)) s
      exact .inr ⟨fun h => hreserved h.2, _, step_of_exec hstart hexec⟩

/-- While VALID is 0 the host's read of STATUS faults and the call ends without a result (70_reset R170). -/
theorem step_collecting_not_valid {s : State} {op : ApiOp} (hstart : s.start = false) (hresets : s.env.resets = [])
    (hphase : s.env.phase = .collecting op) (hvalid : s.out.valid = false) :
    step s = .next (endCall (recordRead .status s)) := by
  rw [step_of_no_resets hstart hresets]
  simp [stepHost, hphase, stepCollect, hvalid]

/-! ## The bus discipline (42_transaction_wrapper R111, R112, R122) -/

theorem busPosition_append (trace : List BusEvent) (e : BusEvent) :
    busPosition (trace ++ [e]) = busNext (busPosition trace) e :=
  List.foldl_concat _ _ _ _

section
variable {s t : State} (hbus : BusInv s)
include hbus

theorem busPosition_of_phase {p : Phase} (hphase : s.env.phase = p) :
    busPosition s.env.trace = some (phasePosition p) := hphase ▸ hbus

/-- A move that adds no event keeps the discipline, if the bus stands in the same place in the new phase. -/
theorem busInv_of_same_trace (htrace : t.env.trace = s.env.trace)
    (hphase : phasePosition t.env.phase = phasePosition s.env.phase) : BusInv t := by
  rw [BusInv, htrace, hphase]
  exact hbus

/-- A move that adds an event keeps the discipline, if the event leads to where the new phase stands. -/
theorem busInv_of_event {p : Phase} {e : BusEvent} (hp : s.env.phase = p) (htrace : t.env.trace = s.env.trace ++ [e])
    (hnext : busNext (some (phasePosition p)) e = some (phasePosition t.env.phase)) : BusInv t := by
  rw [BusInv, htrace, busPosition_append, busPosition_of_phase hbus hp]
  exact hnext

theorem busInv_of_stepDriveLow {c : Call} (hphase : s.env.phase = .drivingLow c) : BusInv (stepDriveLow c s) := by
  cases h : c.driveLow with
  | ok => rw [stepDriveLow_of_ok s h]; exact busInv_of_event hbus hphase rfl rfl
  | error e => rw [stepDriveLow_of_error s h]; exact busInv_of_event hbus hphase rfl rfl

theorem busInv_of_stepExchange {c : Call} (hphase : s.env.phase = .exchanging c 0) : BusInv (stepExchange c s) := by
  match h : exchangeAnswer c.exchange with
  | some (.received b0 b1 b2 b3) =>
    rw [stepExchange_of_received s h]
    exact busInv_of_event hbus hphase rfl rfl
  | some (.error e) => rw [stepExchange_of_error s h]; exact busInv_of_event hbus hphase rfl rfl
  | none => rw [stepExchange_of_cancelled s h]; exact busInv_of_event hbus hphase rfl rfl

theorem busInv_of_stepDriveHigh {c : Call} (hphase : s.env.phase = .drivingHigh c) : BusInv (stepDriveHigh c s) := by
  cases h : c.driveHigh with
  | ok => rw [stepDriveHigh_of_ok s h]; exact busInv_of_event hbus hphase rfl rfl
  | error e => rw [stepDriveHigh_of_error s h]; exact busInv_of_event hbus hphase rfl rfl

theorem busInv_of_stepAction {a : HostAction} {rest : List HostAction} (hphase : s.env.phase = .idle)
    (h : stepAction a (setTodo s rest) = .next t) : BusInv t := by
  have hidle : phasePosition .idle = phasePosition s.env.phase := by rw [hphase]
  cases a with
  | call c => obtain rfl := Host.Outcome.next.inj h; exact busInv_of_same_trace hbus rfl hidle
  | operate cmd bytes => obtain rfl := Host.Outcome.next.inj h; exact busInv_of_same_trace hbus rfl rfl
  | read port => obtain rfl := Host.Outcome.next.inj h; exact busInv_of_same_trace hbus rfl rfl
  | reset => obtain rfl := Host.Outcome.next.inj h; exact busInv_of_same_trace hbus rfl rfl

theorem busInv_of_stepHost (h : stepHost s = .next t) : BusInv t := by
  obtain ⟨c, hphase, rfl⟩ | ⟨c, left, hphase, rfl⟩ | ⟨c, hphase, rfl⟩ | ⟨c, hphase, rfl⟩ | ⟨op, hphase, rfl⟩ |
    ⟨op, r, hphase, -, -, rfl⟩ | ⟨op, hphase, -, rfl⟩ | ⟨-, -, rfl⟩ | ⟨a, rest, hphase, -, haction⟩ := stepHost_cases h
  · exact busInv_of_stepDriveLow hbus hphase
  · exact busInv_of_same_trace hbus rfl (by rw [hphase]; rfl)
  · exact busInv_of_stepExchange hbus hphase
  · exact busInv_of_stepDriveHigh hbus hphase
  · exact busInv_of_same_trace hbus rfl (by rw [hphase]; rfl)
  · exact busInv_of_same_trace hbus rfl (by rw [hphase]; rfl)
  · exact busInv_of_same_trace hbus rfl (by rw [hphase]; rfl)
  · exact hbus
  · exact busInv_of_stepAction hbus hphase haction

end

/-! ## The obligations -/

/-- Settles O57: both are evaluated at the state after reset. -/
theorem invariantHoldsAtReset : Obligations.InvariantHoldsAtReset := by
  unfold Obligations.InvariantHoldsAtReset
  exact ⟨⟨rfl, rfl, rfl⟩, rfl⟩

/-- Settles O58: the operation, a reset and each move of the host keep the invariant (`inv_of_operation`,
`inv_of_reset`, `inv_of_stepHost`). -/
theorem stepKeepsInvariant : Obligations.StepKeepsInvariant := by
  unfold Obligations.StepKeepsInvariant
  intro s t hinv h
  obtain ⟨hstart, u, hexec, rfl⟩ | ⟨hstart, rest, -, rfl⟩ | ⟨hstart, -, hhost⟩ := step_cases h
  · exact inv_of_operation hinv hstart hexec
  · exact (inv_of_reset hinv hstart).setResets rest
  · exact inv_of_stepHost (hinv.setResets (resetsAfterStep s.env.resets)) hstart hhost

/-- Settles O59: an operation and a reset add no event, and each event of a move of the host is the next one that the
discipline allows (`busInv_of_stepHost`). -/
theorem stepKeepsBusDiscipline : Obligations.StepKeepsBusDiscipline := by
  unfold Obligations.StepKeepsBusDiscipline
  intro s t hbus h
  obtain ⟨-, u, hexec, rfl⟩ | ⟨-, rest, -, rfl⟩ | ⟨-, -, hhost⟩ := step_cases h
  · rw [exec_cases hexec]
    exact hbus
  · exact hbus
  · exact busInv_of_stepHost (s := tickResets s) hbus hhost

/-- Settles O60: a step goes on or is refused for a reserved word (`step_of_inv`); a result that a reset has cleared is
not collected (`step_collecting_not_valid`). -/
theorem stopsOnlyWhenItShould : Obligations.StopsOnlyWhenItShould := by
  unfold Obligations.StopsOnlyWhenItShould
  intro s hinv
  refine ⟨?fault, ?refused, ?cleared⟩
  case fault =>
    intro f hf
    obtain ⟨-, -, h⟩ | ⟨-, t, h⟩ := step_of_inv hinv <;> cases h.symm.trans hf
  case refused =>
    intro r
    obtain ⟨hstart, hcmd, h⟩ | ⟨hnot, t, h⟩ := step_of_inv hinv
    · simp [h, hstart, hcmd, eq_comm]
    · simp only [h, reduceCtorEq, false_iff]
      exact fun hr => hnot ⟨hr.1, hr.2.1⟩
  case cleared =>
    intro op hstart hresets hphase hvalid
    refine ⟨_, step_collecting_not_valid hstart hresets hphase hvalid, ?_⟩
    have hread : readPort s.draws s.out .status = .faulted .status := readPort_of_not_valid _ hvalid (by decide)
    simp [atRest, hstart, hresets, hread]

end Sys2Proof.Machine
end
